-- ==== Sys2Proof/Word.lean ====
section
/-! DEFINITION. The two widths of the machine (00_scope.md R6, R8) and the plainest arithmetic on them. -/

namespace Sys2Proof

/-- A byte: a general register, a memory cell, an opcode byte (R6, R8). -/
abbrev Byte := BitVec 8

/-- A 16-bit word: SP, PC, an address, a register pair (R6, R8). -/
abbrev Word := BitVec 16

/-- A shade value 0..3, 0 the lightest (60_exceptions.md R359). -/
abbrev Shade := BitVec 2

/-- The word whose high byte is `hi` and low byte is `lo`: the spec's concatenation of R8. -/
def Word.ofBytes (hi lo : Byte) : Word := hi ++ lo

/-- Bits 15:8 of a word. -/
def Word.hi (w : Word) : Byte := w.extractLsb' 8 8

/-- Bits 7:0 of a word. -/
def Word.lo (w : Word) : Byte := w.extractLsb' 0 8

end Sys2Proof
end

