-- ==== Sys2Proof/Names.lean ====
section
/-! DEFINITION. The names the spec gives to operands, operations and sources, one inductive each: the codes of
30_encoding.md R94 to R99 and the interrupt sources of 60_exceptions.md R320. -/

namespace Sys2Proof

/-- The seven registers with an operand code (R94; code 6 is the byte at HL and no register). F has none (R22). -/
inductive Reg where
  | b | c | d | e | h | l | a
  deriving DecidableEq, Repr

/-- The pairs of `rp[p]`: LD rr,nn; ADD HL,rr; INC rr; DEC rr (R95). -/
inductive Pair where
  | bc | de | hl | sp
  deriving DecidableEq, Repr

/-- The pairs of `rp2[p]`: PUSH and POP (R96). -/
inductive StackPair where
  | bc | de | hl | af
  deriving DecidableEq, Repr

/-- The condition codes (R97). -/
inductive Cond where
  | nz | z | nc | c
  deriving DecidableEq, Repr

/-- The ALU operation codes (R98). -/
inductive AluOp where
  | add | adc | sub | sbc | and | xor | or | cp
  deriving DecidableEq, Repr

/-- The rotate and shift operation codes (R99). -/
inductive RotOp where
  | rlc | rrc | rl | rr | sla | sra | swap | srl
  deriving DecidableEq, Repr

/-- The accumulator rotates, codes 0..3 of R99. -/
inductive AccRotOp where
  | rlca | rrca | rla | rra
  deriving DecidableEq, Repr

/-- A three-bit field 0..7: the bit number of BIT, RES, SET and the target number of RST (R100). -/
inductive Code3 where
  | k0 | k1 | k2 | k3 | k4 | k5 | k6 | k7
  deriving DecidableEq, Repr

/-- The number a three-bit field stands for. -/
def Code3.toNat : Code3 → Nat
  | .k0 => 0 | .k1 => 1 | .k2 => 2 | .k3 => 3 | .k4 => 4 | .k5 => 5 | .k6 => 6 | .k7 => 7

/-- The five interrupt sources, in index order 0..4 (R320). -/
inductive IntSource where
  | vblank | lcdStat | timer | serial | joypad
  deriving DecidableEq, Repr

/-- The source's index: its bit number in IF and IE (R320, 10_state.md R41). -/
def IntSource.index : IntSource → Nat
  | .vblank => 0 | .lcdStat => 1 | .timer => 2 | .serial => 3 | .joypad => 4

/-- The eight logical buttons of the host's ButtonPress and ButtonRelease (R380). -/
inductive Button where
  | up | down | left | right | a | b | select | start
  deriving DecidableEq, Repr

end Sys2Proof
end

