-- ==== Sys2Proof/Config.lean ====
section
/-! DEFINITION. The sizes the source fixes (00_scope.md R6) and the values the spec leaves without any choice, constants
without a body. The parameters of R7 that have a default stand in Machine/Params.lean. -/

namespace Sys2Proof

/-- Width of the display in pixels (R6). -/
def Config.screenWidth : Nat := 160

/-- Height of the display in pixels, the number of visible lines (R6). -/
def Config.screenHeight : Nat := 144

/-- Cycles of one scanline (R6). -/
def Config.lineCycles : Nat := 456

/-- Number of sprite slots (R6). -/
def Config.spriteSlots : Nat := 40

/-- The bits of JOYP that a button toggles. The register's layout is not in the source and not modelled
(10_state.md R53, 60_exceptions.md R380): a FREE VALUE, so no claim can rest on it (log entry 8). -/
opaque Config.joypadToggle : Button → Byte

/-- FRAME_CYCLES: the cycles between two points where the host may act, OPEN (decision D31). No rule of the machine reads it:
a host action may come between any two steps (60_exceptions.md R302; log entry 10). -/
opaque Config.frameCycles : Nat

/-- SHADE: the gray level a shade value stands for, OPEN (decision D34). No rule of the machine reads it: a shade stays its
value 0 to 3 (60_exceptions.md R359; log entry 10). -/
opaque Config.grayLevel : Shade → Nat

end Sys2Proof
end

