-- ==== Sys2Proof/Machine/Params.lean ====
section
/-! DEFINITION. The parameters of 00_scope.md R7 at the spec's default values, one name each, and each consulted where its
rule is coded: changing a value here changes the machine. IOADDR, VECTOR, PERIOD, `cost`, HALT_CYCLES, INT_DISPATCH_CYCLES,
EI_DELAY, STOP_BEHAVIOUR, ILLEGAL, LYC_IRQ, LCD_ENABLE_GATING and the registers of RESET stand here (log entries 6 and 7). Of
the others, `Bus` is `Params.bus` in Machine/Ops.lean, RESET is `State.reset` in Machine/State.lean, InitialMemory is the
argument of `powerOn` in Machine/HostActions.lean, and the two OPEN ones, FRAME_CYCLES and SHADE, stand in Config.lean. -/

namespace Sys2Proof.Machine.Params

/-! IOADDR: the address of each memory-mapped register (R40, decision D2). -/
def joyp : Word := 0xFF00
def div : Word := 0xFF04
def tima : Word := 0xFF05
def tma : Word := 0xFF06
def tac : Word := 0xFF07
def intFlag : Word := 0xFF0F
def lcdc : Word := 0xFF40
def stat : Word := 0xFF41
def scy : Word := 0xFF42
def scx : Word := 0xFF43
def ly : Word := 0xFF44
def lyc : Word := 0xFF45
def bgp : Word := 0xFF47
def obp0 : Word := 0xFF48
def obp1 : Word := 0xFF49
def wy : Word := 0xFF4A
def wx : Word := 0xFF4B
def intEnable : Word := 0xFFFF

/-- Base of the sprite attribute table (20_memory.md R71). -/
def oam : Word := 0xFE00

/-- RESET of the registers: the value reset writes to each memory-mapped register but JOYP (10_state.md R55). -/
def ioReset : List (Word × Byte) :=
  [(div, 0x00), (tima, 0x00), (tma, 0x00), (tac, 0x00), (intFlag, 0x00), (lcdc, 0x91), (stat, 0x06), (scy, 0x00),
    (scx, 0x00), (ly, 0x00), (lyc, 0x00), (bgp, 0xFC), (obp0, 0xFF), (obp1, 0xFF), (wy, 0x00), (wx, 0x00),
    (intEnable, 0x00)]

/-- VECTOR: the fixed handler address of each source (60_exceptions.md R325). -/
def vector : IntSource → Word
  | .vblank => 0x0040 | .lcdStat => 0x0048 | .timer => 0x0050 | .serial => 0x0058 | .joypad => 0x0060

/-- PERIOD: timer cycles per tick for TAC[1:0] (10_state.md R46). -/
def period (tac : Byte) : Nat :=
  match (tac.extractLsb' 0 2).toNat with
  | 0 => 1024
  | 1 => 16
  | 2 => 64
  | _ => 256

/-- The lines of the cost table of 70_reset_and_hazards.md R420, each with its rules. HALT's cost is HALT_CYCLES. -/
inductive CostLine where
  /-- NOP, DI, EI (R260, R263, R264). -/
  | nopDiEi
  /-- LD r,r' (R120). -/
  | ldReg
  /-- LD r,n (R121). -/
  | ldRegImm
  /-- LD r,(HL); LD (HL),r (R122, R123). -/
  | ldAtHl
  /-- LD (HL),n (R124). -/
  | ldAtHlImm
  /-- LD A,(BC); LD A,(DE); LD (BC),A; LD (DE),A (R125 to R128). -/
  | ldAtPair
  /-- LD A,(nn); LD (nn),A (R129, R130). -/
  | ldAtWord
  /-- LDH A,(C); LDH (C),A (R131, R132). -/
  | ldhAtC
  /-- LDH A,(n); LDH (n),A (R133, R134). -/
  | ldhAtImm
  /-- LD A,(HL-); LD (HL-),A; LD A,(HL+); LD (HL+),A (R135 to R138). -/
  | ldStepping
  /-- LD rr,nn (R140). -/
  | ldPairWord
  /-- LD (nn),SP (R141). -/
  | ldAtWordSp
  /-- LD SP,HL (R142). -/
  | ldSpHl
  /-- PUSH qq (R143). -/
  | push
  /-- POP qq (R144). -/
  | pop
  /-- LD HL,SP+e (R145). -/
  | ldHlSp
  /-- ADD to CP with A,r (R150, R153, ..., R171). -/
  | aluReg
  /-- ADD to CP with A,(HL) or A,n (R151, R152, ..., R173). -/
  | aluByte
  /-- INC r; DEC r (R174, R176). -/
  | incDecReg
  /-- INC (HL); DEC (HL) (R175, R177). -/
  | incDecMem
  /-- DAA; CPL; SCF; CCF (R178 to R181). -/
  | accumulator
  /-- ADD HL,rr; INC rr; DEC rr (R190, R191, R192). -/
  | pairArith
  /-- ADD SP,e (R193). -/
  | addSp
  /-- RLCA; RRCA; RLA; RRA (R200 to R203). -/
  | rotAcc
  /-- Extended rotate, shift and SWAP on a register (R204, R206, ..., R218). -/
  | rotReg
  /-- Extended rotate, shift and SWAP on (HL) (R205, R207, ..., R219). -/
  | rotMem
  /-- BIT b,r; RES b,r; SET b,r (R220, R222, R224). -/
  | bitsReg
  /-- BIT b,(HL) (R221). -/
  | bitMem
  /-- RES b,(HL); SET b,(HL) (R223, R225). -/
  | resSetMem
  /-- JP nn (R240). -/
  | jp
  /-- JP cc,nn (R241). -/
  | jpIf
  /-- JP HL (R242). -/
  | jpHl
  /-- JR e (R243). -/
  | jr
  /-- JR cc,e (R244). -/
  | jrIf
  /-- CALL nn (R246). -/
  | call
  /-- CALL cc,nn (R247). -/
  | callIf
  /-- RET (R248). -/
  | ret
  /-- RET cc (R249). -/
  | retIf
  /-- RETI (R250, decision D9). -/
  | reti
  /-- RST t (R251). -/
  | rst
  deriving DecidableEq, Repr

/-- `cost(op, taken)`: the cost in clock cycles of an instruction of a line of the table, and whether its condition held,
which the conditional lines alone ask (R420, R421; decision D8). -/
@[simp] def cost (line : CostLine) (taken : Bool := false) : Nat :=
  match line with
  | .nopDiEi => 4
  | .ldReg => 4
  | .ldRegImm => 8
  | .ldAtHl => 8
  | .ldAtHlImm => 12
  | .ldAtPair => 8
  | .ldAtWord => 16
  | .ldhAtC => 8
  | .ldhAtImm => 12
  | .ldStepping => 8
  | .ldPairWord => 12
  | .ldAtWordSp => 20
  | .ldSpHl => 8
  | .push => 16
  | .pop => 12
  | .ldHlSp => 12
  | .aluReg => 4
  | .aluByte => 8
  | .incDecReg => 4
  | .incDecMem => 12
  | .accumulator => 4
  | .pairArith => 8
  | .addSp => 16
  | .rotAcc => 4
  | .rotReg => 8
  | .rotMem => 16
  | .bitsReg => 8
  | .bitMem => 12
  | .resSetMem => 16
  | .jp => 16
  | .jpIf => if taken then 16 else 12
  | .jpHl => 4
  | .jr => 12
  | .jrIf => if taken then 12 else 8
  | .call => 24
  | .callIf => if taken then 24 else 12
  | .ret => 16
  | .retIf => if taken then 20 else 8
  | .reti => 16
  | .rst => 16

/-- HALT_CYCLES: the cost of each execution of HALT (46_system.md R261). -/
def haltCycles : Nat := 4

/-- INT_DISPATCH_CYCLES: cycles charged to TIMER and PPU for an interrupt dispatch (60_exceptions.md R324). -/
def intDispatchCycles : Nat := 0

/-- The two values of STOP_BEHAVIOUR (46_system.md R262). -/
inductive StopBehaviour where
  | fault | nop2
  deriving DecidableEq, Repr

/-- STOP_BEHAVIOUR (decision D13). -/
def stopBehaviour : StopBehaviour := .fault

/-- The values of EI_DELAY, the number of instructions between EI and IME becoming 1. The machine has no state that could
hold a delay (10_state.md R54), for which decision D12 rejects any other, so 0 is its one value. -/
inductive EiDelay where
  | zero
  deriving DecidableEq, Repr

/-- EI_DELAY (46_system.md R264, decision D12). -/
def eiDelay : EiDelay := .zero

/-- ILLEGAL: the unrecognized primary opcodes (30_encoding.md R103, decision D14), each with its row of the opcode table. -/
def illegal : List (Byte × Instr) :=
  [(0xD3, .illegalD3), (0xDB, .illegalDB), (0xDD, .illegalDD), (0xE3, .illegalE3), (0xE4, .illegalE4), (0xEB, .illegalEB),
    (0xEC, .illegalEC), (0xED, .illegalED), (0xF4, .illegalF4), (0xFC, .illegalFC), (0xFD, .illegalFD)]

/-- The two values of LYC_IRQ (60_exceptions.md R357). -/
inductive LycIrq where
  /-- The line-compare request is made at every advance for which LY = LYC. -/
  | level
  /-- It is made only in the advance in which LY = LYC becomes true. -/
  | edge
  deriving DecidableEq, Repr

/-- LYC_IRQ (decision D21). -/
def lycIrq : LycIrq := .level

/-- LCD_ENABLE_GATING: whether LCDC bit 7 = 0 freezes the PPU (60_exceptions.md R350, decision D22). -/
def lcdEnableGating : Bool := false

end Sys2Proof.Machine.Params
end

