-- ==== Sys2Proof/WellFormed.lean ====
section
/-! DEFINITION. The check on instructions. Every immediate value is legal for every instruction that takes one, and the
types hold exactly the values of 30_encoding.md R100, so the one check left is that the instruction is recognized: the
eleven unrecognized opcodes of R103 have rows in the table and are no instructions (log entry 17). -/

namespace Sys2Proof

/-- The instruction is not one of the eleven unrecognized opcodes (30_encoding.md R103, R104). -/
def Instr.wellFormed : Instr → Bool
  | .illegalD3 => false
  | .illegalDB => false
  | .illegalDD => false
  | .illegalE3 => false
  | .illegalE4 => false
  | .illegalEB => false
  | .illegalEC => false
  | .illegalED => false
  | .illegalF4 => false
  | .illegalFC => false
  | .illegalFD => false
  | _ => true

end Sys2Proof
end

