-- ==== Sys2Proof/Decode.lean ====
section
/-! DEFINITION. Decoding and encoding. The decoder follows the field tables of 30_encoding.md (R92 to R102): it takes a byte
apart into x, y, z, p, q and never looks at an opcode value as a whole. The encoder follows the cells of the two maps (R101,
R102), so that their agreement says something. -/

namespace Sys2Proof

/-! ### The rows of one field pattern, by their operands -/

/-- `LD r,r'` (R120). -/
def Row.ldReg : Reg → Reg → Instr
  | .b, .b => .ldBB
  | .b, .c => .ldBC
  | .b, .d => .ldBD
  | .b, .e => .ldBE
  | .b, .h => .ldBH
  | .b, .l => .ldBL
  | .b, .a => .ldBA
  | .c, .b => .ldCB
  | .c, .c => .ldCC
  | .c, .d => .ldCD
  | .c, .e => .ldCE
  | .c, .h => .ldCH
  | .c, .l => .ldCL
  | .c, .a => .ldCA
  | .d, .b => .ldDB
  | .d, .c => .ldDC
  | .d, .d => .ldDD
  | .d, .e => .ldDE
  | .d, .h => .ldDH
  | .d, .l => .ldDL
  | .d, .a => .ldDA
  | .e, .b => .ldEB
  | .e, .c => .ldEC
  | .e, .d => .ldED
  | .e, .e => .ldEE
  | .e, .h => .ldEH
  | .e, .l => .ldEL
  | .e, .a => .ldEA
  | .h, .b => .ldHB
  | .h, .c => .ldHC
  | .h, .d => .ldHD
  | .h, .e => .ldHE
  | .h, .h => .ldHH
  | .h, .l => .ldHL
  | .h, .a => .ldHA
  | .l, .b => .ldLB
  | .l, .c => .ldLC
  | .l, .d => .ldLD
  | .l, .e => .ldLE
  | .l, .h => .ldLH
  | .l, .l => .ldLL
  | .l, .a => .ldLA
  | .a, .b => .ldAB
  | .a, .c => .ldAC
  | .a, .d => .ldAD
  | .a, .e => .ldAE
  | .a, .h => .ldAH
  | .a, .l => .ldAL
  | .a, .a => .ldAA

/-- `LD r,n` (R121). -/
def Row.ldRegImm (r : Reg) (n : Byte) : Instr :=
  match r with
  | .b => .ldBImm n
  | .c => .ldCImm n
  | .d => .ldDImm n
  | .e => .ldEImm n
  | .h => .ldHImm n
  | .l => .ldLImm n
  | .a => .ldAImm n

/-- `LD r,(HL)` (R122). -/
def Row.ldRegAtHl : Reg → Instr
  | .b => .ldBAtHl
  | .c => .ldCAtHl
  | .d => .ldDAtHl
  | .e => .ldEAtHl
  | .h => .ldHAtHl
  | .l => .ldLAtHl
  | .a => .ldAAtHl

/-- `LD (HL),r` (R123). -/
def Row.ldAtHlReg : Reg → Instr
  | .b => .ldAtHlB
  | .c => .ldAtHlC
  | .d => .ldAtHlD
  | .e => .ldAtHlE
  | .h => .ldAtHlH
  | .l => .ldAtHlL
  | .a => .ldAtHlA

/-- `LD rr,nn` (R140). -/
def Row.ldPairWord (p : Pair) (nn : Word) : Instr :=
  match p with
  | .bc => .ldBcWord nn
  | .de => .ldDeWord nn
  | .hl => .ldHlWord nn
  | .sp => .ldSpWord nn

/-- `PUSH qq` (R143). -/
def Row.pushPair : StackPair → Instr
  | .bc => .pushBc
  | .de => .pushDe
  | .hl => .pushHl
  | .af => .pushAf

/-- `POP qq` (R144). -/
def Row.popPair : StackPair → Instr
  | .bc => .popBc
  | .de => .popDe
  | .hl => .popHl
  | .af => .popAf

/-- An ALU operation with a register (R98). -/
def Row.aluReg : AluOp → Reg → Instr
  | .add, .b => .addAB
  | .add, .c => .addAC
  | .add, .d => .addAD
  | .add, .e => .addAE
  | .add, .h => .addAH
  | .add, .l => .addAL
  | .add, .a => .addAA
  | .adc, .b => .adcAB
  | .adc, .c => .adcAC
  | .adc, .d => .adcAD
  | .adc, .e => .adcAE
  | .adc, .h => .adcAH
  | .adc, .l => .adcAL
  | .adc, .a => .adcAA
  | .sub, .b => .subAB
  | .sub, .c => .subAC
  | .sub, .d => .subAD
  | .sub, .e => .subAE
  | .sub, .h => .subAH
  | .sub, .l => .subAL
  | .sub, .a => .subAA
  | .sbc, .b => .sbcAB
  | .sbc, .c => .sbcAC
  | .sbc, .d => .sbcAD
  | .sbc, .e => .sbcAE
  | .sbc, .h => .sbcAH
  | .sbc, .l => .sbcAL
  | .sbc, .a => .sbcAA
  | .and, .b => .andAB
  | .and, .c => .andAC
  | .and, .d => .andAD
  | .and, .e => .andAE
  | .and, .h => .andAH
  | .and, .l => .andAL
  | .and, .a => .andAA
  | .xor, .b => .xorAB
  | .xor, .c => .xorAC
  | .xor, .d => .xorAD
  | .xor, .e => .xorAE
  | .xor, .h => .xorAH
  | .xor, .l => .xorAL
  | .xor, .a => .xorAA
  | .or, .b => .orAB
  | .or, .c => .orAC
  | .or, .d => .orAD
  | .or, .e => .orAE
  | .or, .h => .orAH
  | .or, .l => .orAL
  | .or, .a => .orAA
  | .cp, .b => .cpAB
  | .cp, .c => .cpAC
  | .cp, .d => .cpAD
  | .cp, .e => .cpAE
  | .cp, .h => .cpAH
  | .cp, .l => .cpAL
  | .cp, .a => .cpAA

/-- An ALU operation with the byte at HL (R98). -/
def Row.aluAtHl : AluOp → Instr
  | .add => .addAAtHl
  | .adc => .adcAAtHl
  | .sub => .subAAtHl
  | .sbc => .sbcAAtHl
  | .and => .andAAtHl
  | .xor => .xorAAtHl
  | .or => .orAAtHl
  | .cp => .cpAAtHl

/-- An ALU operation with an immediate (R98). -/
def Row.aluImm (op : AluOp) (n : Byte) : Instr :=
  match op with
  | .add => .addAImm n
  | .adc => .adcAImm n
  | .sub => .subAImm n
  | .sbc => .sbcAImm n
  | .and => .andAImm n
  | .xor => .xorAImm n
  | .or => .orAImm n
  | .cp => .cpAImm n

/-- `INC r` (R174). -/
def Row.incReg : Reg → Instr
  | .b => .incB
  | .c => .incC
  | .d => .incD
  | .e => .incE
  | .h => .incH
  | .l => .incL
  | .a => .incA

/-- `DEC r` (R176). -/
def Row.decReg : Reg → Instr
  | .b => .decB
  | .c => .decC
  | .d => .decD
  | .e => .decE
  | .h => .decH
  | .l => .decL
  | .a => .decA

/-- `ADD HL,rr` (R190). -/
def Row.addHlPair : Pair → Instr
  | .bc => .addHlBc
  | .de => .addHlDe
  | .hl => .addHlHl
  | .sp => .addHlSp

/-- `INC rr` (R191). -/
def Row.incPair : Pair → Instr
  | .bc => .incBc
  | .de => .incDe
  | .hl => .incHl
  | .sp => .incSp

/-- `DEC rr` (R192). -/
def Row.decPair : Pair → Instr
  | .bc => .decBc
  | .de => .decDe
  | .hl => .decHl
  | .sp => .decSp

/-- The accumulator rotates (R99). -/
def Row.rotAcc : AccRotOp → Instr
  | .rlca => .rlca
  | .rrca => .rrca
  | .rla => .rla
  | .rra => .rra

/-- An extended rotate or shift of a register (R99). -/
def Row.rotReg : RotOp → Reg → Instr
  | .rlc, .b => .rlcB
  | .rlc, .c => .rlcC
  | .rlc, .d => .rlcD
  | .rlc, .e => .rlcE
  | .rlc, .h => .rlcH
  | .rlc, .l => .rlcL
  | .rlc, .a => .rlcA
  | .rrc, .b => .rrcB
  | .rrc, .c => .rrcC
  | .rrc, .d => .rrcD
  | .rrc, .e => .rrcE
  | .rrc, .h => .rrcH
  | .rrc, .l => .rrcL
  | .rrc, .a => .rrcA
  | .rl, .b => .rlB
  | .rl, .c => .rlC
  | .rl, .d => .rlD
  | .rl, .e => .rlE
  | .rl, .h => .rlH
  | .rl, .l => .rlL
  | .rl, .a => .rlA
  | .rr, .b => .rrB
  | .rr, .c => .rrC
  | .rr, .d => .rrD
  | .rr, .e => .rrE
  | .rr, .h => .rrH
  | .rr, .l => .rrL
  | .rr, .a => .rrA
  | .sla, .b => .slaB
  | .sla, .c => .slaC
  | .sla, .d => .slaD
  | .sla, .e => .slaE
  | .sla, .h => .slaH
  | .sla, .l => .slaL
  | .sla, .a => .slaA
  | .sra, .b => .sraB
  | .sra, .c => .sraC
  | .sra, .d => .sraD
  | .sra, .e => .sraE
  | .sra, .h => .sraH
  | .sra, .l => .sraL
  | .sra, .a => .sraA
  | .swap, .b => .swapB
  | .swap, .c => .swapC
  | .swap, .d => .swapD
  | .swap, .e => .swapE
  | .swap, .h => .swapH
  | .swap, .l => .swapL
  | .swap, .a => .swapA
  | .srl, .b => .srlB
  | .srl, .c => .srlC
  | .srl, .d => .srlD
  | .srl, .e => .srlE
  | .srl, .h => .srlH
  | .srl, .l => .srlL
  | .srl, .a => .srlA

/-- An extended rotate or shift of the byte at HL (R99). -/
def Row.rotMem : RotOp → Instr
  | .rlc => .rlcAtHl
  | .rrc => .rrcAtHl
  | .rl => .rlAtHl
  | .rr => .rrAtHl
  | .sla => .slaAtHl
  | .sra => .sraAtHl
  | .swap => .swapAtHl
  | .srl => .srlAtHl

/-- `BIT b,r` (R93). -/
def Row.bitReg : Code3 → Reg → Instr
  | .k0, .b => .bit0B
  | .k0, .c => .bit0C
  | .k0, .d => .bit0D
  | .k0, .e => .bit0E
  | .k0, .h => .bit0H
  | .k0, .l => .bit0L
  | .k0, .a => .bit0A
  | .k1, .b => .bit1B
  | .k1, .c => .bit1C
  | .k1, .d => .bit1D
  | .k1, .e => .bit1E
  | .k1, .h => .bit1H
  | .k1, .l => .bit1L
  | .k1, .a => .bit1A
  | .k2, .b => .bit2B
  | .k2, .c => .bit2C
  | .k2, .d => .bit2D
  | .k2, .e => .bit2E
  | .k2, .h => .bit2H
  | .k2, .l => .bit2L
  | .k2, .a => .bit2A
  | .k3, .b => .bit3B
  | .k3, .c => .bit3C
  | .k3, .d => .bit3D
  | .k3, .e => .bit3E
  | .k3, .h => .bit3H
  | .k3, .l => .bit3L
  | .k3, .a => .bit3A
  | .k4, .b => .bit4B
  | .k4, .c => .bit4C
  | .k4, .d => .bit4D
  | .k4, .e => .bit4E
  | .k4, .h => .bit4H
  | .k4, .l => .bit4L
  | .k4, .a => .bit4A
  | .k5, .b => .bit5B
  | .k5, .c => .bit5C
  | .k5, .d => .bit5D
  | .k5, .e => .bit5E
  | .k5, .h => .bit5H
  | .k5, .l => .bit5L
  | .k5, .a => .bit5A
  | .k6, .b => .bit6B
  | .k6, .c => .bit6C
  | .k6, .d => .bit6D
  | .k6, .e => .bit6E
  | .k6, .h => .bit6H
  | .k6, .l => .bit6L
  | .k6, .a => .bit6A
  | .k7, .b => .bit7B
  | .k7, .c => .bit7C
  | .k7, .d => .bit7D
  | .k7, .e => .bit7E
  | .k7, .h => .bit7H
  | .k7, .l => .bit7L
  | .k7, .a => .bit7A

/-- `BIT b,(HL)` (R93). -/
def Row.bitMem : Code3 → Instr
  | .k0 => .bit0AtHl
  | .k1 => .bit1AtHl
  | .k2 => .bit2AtHl
  | .k3 => .bit3AtHl
  | .k4 => .bit4AtHl
  | .k5 => .bit5AtHl
  | .k6 => .bit6AtHl
  | .k7 => .bit7AtHl

/-- `RES b,r` (R93). -/
def Row.resReg : Code3 → Reg → Instr
  | .k0, .b => .res0B
  | .k0, .c => .res0C
  | .k0, .d => .res0D
  | .k0, .e => .res0E
  | .k0, .h => .res0H
  | .k0, .l => .res0L
  | .k0, .a => .res0A
  | .k1, .b => .res1B
  | .k1, .c => .res1C
  | .k1, .d => .res1D
  | .k1, .e => .res1E
  | .k1, .h => .res1H
  | .k1, .l => .res1L
  | .k1, .a => .res1A
  | .k2, .b => .res2B
  | .k2, .c => .res2C
  | .k2, .d => .res2D
  | .k2, .e => .res2E
  | .k2, .h => .res2H
  | .k2, .l => .res2L
  | .k2, .a => .res2A
  | .k3, .b => .res3B
  | .k3, .c => .res3C
  | .k3, .d => .res3D
  | .k3, .e => .res3E
  | .k3, .h => .res3H
  | .k3, .l => .res3L
  | .k3, .a => .res3A
  | .k4, .b => .res4B
  | .k4, .c => .res4C
  | .k4, .d => .res4D
  | .k4, .e => .res4E
  | .k4, .h => .res4H
  | .k4, .l => .res4L
  | .k4, .a => .res4A
  | .k5, .b => .res5B
  | .k5, .c => .res5C
  | .k5, .d => .res5D
  | .k5, .e => .res5E
  | .k5, .h => .res5H
  | .k5, .l => .res5L
  | .k5, .a => .res5A
  | .k6, .b => .res6B
  | .k6, .c => .res6C
  | .k6, .d => .res6D
  | .k6, .e => .res6E
  | .k6, .h => .res6H
  | .k6, .l => .res6L
  | .k6, .a => .res6A
  | .k7, .b => .res7B
  | .k7, .c => .res7C
  | .k7, .d => .res7D
  | .k7, .e => .res7E
  | .k7, .h => .res7H
  | .k7, .l => .res7L
  | .k7, .a => .res7A

/-- `RES b,(HL)` (R93). -/
def Row.resMem : Code3 → Instr
  | .k0 => .res0AtHl
  | .k1 => .res1AtHl
  | .k2 => .res2AtHl
  | .k3 => .res3AtHl
  | .k4 => .res4AtHl
  | .k5 => .res5AtHl
  | .k6 => .res6AtHl
  | .k7 => .res7AtHl

/-- `SET b,r` (R93). -/
def Row.setBitReg : Code3 → Reg → Instr
  | .k0, .b => .set0B
  | .k0, .c => .set0C
  | .k0, .d => .set0D
  | .k0, .e => .set0E
  | .k0, .h => .set0H
  | .k0, .l => .set0L
  | .k0, .a => .set0A
  | .k1, .b => .set1B
  | .k1, .c => .set1C
  | .k1, .d => .set1D
  | .k1, .e => .set1E
  | .k1, .h => .set1H
  | .k1, .l => .set1L
  | .k1, .a => .set1A
  | .k2, .b => .set2B
  | .k2, .c => .set2C
  | .k2, .d => .set2D
  | .k2, .e => .set2E
  | .k2, .h => .set2H
  | .k2, .l => .set2L
  | .k2, .a => .set2A
  | .k3, .b => .set3B
  | .k3, .c => .set3C
  | .k3, .d => .set3D
  | .k3, .e => .set3E
  | .k3, .h => .set3H
  | .k3, .l => .set3L
  | .k3, .a => .set3A
  | .k4, .b => .set4B
  | .k4, .c => .set4C
  | .k4, .d => .set4D
  | .k4, .e => .set4E
  | .k4, .h => .set4H
  | .k4, .l => .set4L
  | .k4, .a => .set4A
  | .k5, .b => .set5B
  | .k5, .c => .set5C
  | .k5, .d => .set5D
  | .k5, .e => .set5E
  | .k5, .h => .set5H
  | .k5, .l => .set5L
  | .k5, .a => .set5A
  | .k6, .b => .set6B
  | .k6, .c => .set6C
  | .k6, .d => .set6D
  | .k6, .e => .set6E
  | .k6, .h => .set6H
  | .k6, .l => .set6L
  | .k6, .a => .set6A
  | .k7, .b => .set7B
  | .k7, .c => .set7C
  | .k7, .d => .set7D
  | .k7, .e => .set7E
  | .k7, .h => .set7H
  | .k7, .l => .set7L
  | .k7, .a => .set7A

/-- `SET b,(HL)` (R93). -/
def Row.setBitMem : Code3 → Instr
  | .k0 => .set0AtHl
  | .k1 => .set1AtHl
  | .k2 => .set2AtHl
  | .k3 => .set3AtHl
  | .k4 => .set4AtHl
  | .k5 => .set5AtHl
  | .k6 => .set6AtHl
  | .k7 => .set7AtHl

/-- `JP cc,nn` (R241). -/
def Row.jumpIf (cc : Cond) (nn : Word) : Instr :=
  match cc with
  | .nz => .jpNzWord nn
  | .z => .jpZWord nn
  | .nc => .jpNcWord nn
  | .c => .jpCWord nn

/-- `JR cc,e` (R244). -/
def Row.jumpRelIf (cc : Cond) (e : Byte) : Instr :=
  match cc with
  | .nz => .jrNzOff e
  | .z => .jrZOff e
  | .nc => .jrNcOff e
  | .c => .jrCOff e

/-- `CALL cc,nn` (R247). -/
def Row.callIf (cc : Cond) (nn : Word) : Instr :=
  match cc with
  | .nz => .callNzWord nn
  | .z => .callZWord nn
  | .nc => .callNcWord nn
  | .c => .callCWord nn

/-- `RET cc` (R249). -/
def Row.returnIf : Cond → Instr
  | .nz => .retNz
  | .z => .retZ
  | .nc => .retNc
  | .c => .retC

/-- `RST t` (R251). -/
def Row.restart : Code3 → Instr
  | .k0 => .rst00
  | .k1 => .rst08
  | .k2 => .rst10
  | .k3 => .rst18
  | .k4 => .rst20
  | .k5 => .rst28
  | .k6 => .rst30
  | .k7 => .rst38

/-! ### Fields and codes (R92 to R99) -/

/-- Field x: bits 7:6. -/
def fieldX (op : Byte) : Nat := (op.extractLsb' 6 2).toNat

/-- Field y: bits 5:3. -/
def fieldY (op : Byte) : Nat := (op.extractLsb' 3 3).toNat

/-- Field z: bits 2:0. -/
def fieldZ (op : Byte) : Nat := (op.extractLsb' 0 3).toNat

/-- Field p: bits 5:4. -/
def fieldP (op : Byte) : Nat := (op.extractLsb' 4 2).toNat

/-- Field q: bit 3. -/
def fieldQ (op : Byte) : Bool := op.getLsbD 3

/-- The operand code `r8[i]`; `none` is the byte at HL (R94). -/
def regOfCode : Nat → Option Reg
  | 0 => some .b | 1 => some .c | 2 => some .d | 3 => some .e | 4 => some .h | 5 => some .l | 6 => none | _ => some .a

/-- The pair code `rp[p]` (R95). -/
def pairOfCode : Nat → Pair
  | 0 => .bc | 1 => .de | 2 => .hl | _ => .sp

/-- The pair code `rp2[p]` (R96). -/
def stackPairOfCode : Nat → StackPair
  | 0 => .bc | 1 => .de | 2 => .hl | _ => .af

/-- The condition code `cc[i]` (R97). -/
def condOfCode : Nat → Cond
  | 0 => .nz | 1 => .z | 2 => .nc | _ => .c

/-- The ALU operation code `alu[y]` (R98). -/
def aluOfCode : Nat → AluOp
  | 0 => .add | 1 => .adc | 2 => .sub | 3 => .sbc | 4 => .and | 5 => .xor | 6 => .or | _ => .cp

/-- The rotate and shift operation code `rot[y]` (R99). -/
def rotOfCode : Nat → RotOp
  | 0 => .rlc | 1 => .rrc | 2 => .rl | 3 => .rr | 4 => .sla | 5 => .sra | 6 => .swap | _ => .srl

/-- A three-bit number (R100). -/
def code3OfCode : Nat → Code3
  | 0 => .k0 | 1 => .k1 | 2 => .k2 | 3 => .k3 | 4 => .k4 | 5 => .k5 | 6 => .k6 | _ => .k7

/-! ### The decoder -/

/-- The extended map: the byte after the prefix (R93, R102, 46_system.md R265). -/
def decodeExtended (op2 : Byte) : Instr :=
  let b := code3OfCode (fieldY op2)
  match fieldX op2, regOfCode (fieldZ op2) with
  | 0, some r => Row.rotReg (rotOfCode (fieldY op2)) r
  | 0, none => Row.rotMem (rotOfCode (fieldY op2))
  | 1, some r => Row.bitReg b r
  | 1, none => Row.bitMem b
  | 2, some r => Row.resReg b r
  | 2, none => Row.resMem b
  | _, some r => Row.setBitReg b r
  | _, none => Row.setBitMem b

/-- Quadrant x = 0 of the primary map (R101). -/
def decodeQuadrant0 (op n : Byte) (nn : Word) : Instr :=
  match fieldZ op with
  | 0 =>
    match fieldY op with
    | 0 => .nop
    | 1 => .ldAtWordSp nn
    | 2 => .stop
    | 3 => .jrOff n
    | y => Row.jumpRelIf (condOfCode (y - 4)) n
  | 1 => if fieldQ op then Row.addHlPair (pairOfCode (fieldP op)) else Row.ldPairWord (pairOfCode (fieldP op)) nn
  | 2 =>
    match fieldQ op, fieldP op with
    | false, 0 => .ldAtBcA
    | false, 1 => .ldAtDeA
    | false, 2 => .ldAtHlIncA
    | false, _ => .ldAtHlDecA
    | true, 0 => .ldAAtBc
    | true, 1 => .ldAAtDe
    | true, 2 => .ldAAtHlInc
    | true, _ => .ldAAtHlDec
  | 3 => if fieldQ op then Row.decPair (pairOfCode (fieldP op)) else Row.incPair (pairOfCode (fieldP op))
  | 4 =>
    match regOfCode (fieldY op) with
    | some r => Row.incReg r
    | none => .incAtHl
  | 5 =>
    match regOfCode (fieldY op) with
    | some r => Row.decReg r
    | none => .decAtHl
  | 6 =>
    match regOfCode (fieldY op) with
    | some r => Row.ldRegImm r n
    | none => .ldAtHlImm n
  | _ =>
    match fieldY op with
    | 0 => .rlca
    | 1 => .rrca
    | 2 => .rla
    | 3 => .rra
    | 4 => .daa
    | 5 => .cpl
    | 6 => .scf
    | _ => .ccf

/-- Quadrant x = 1: the load block, with HALT in the place of `LD (HL),(HL)` (R101, R104). -/
def decodeQuadrant1 (op : Byte) : Instr :=
  match regOfCode (fieldY op), regOfCode (fieldZ op) with
  | some dst, some src => Row.ldReg dst src
  | some dst, none => Row.ldRegAtHl dst
  | none, some src => Row.ldAtHlReg src
  | none, none => .halt

/-- Quadrant x = 2: the ALU block (R101). -/
def decodeQuadrant2 (op : Byte) : Instr :=
  match regOfCode (fieldZ op) with
  | some r => Row.aluReg (aluOfCode (fieldY op)) r
  | none => Row.aluAtHl (aluOfCode (fieldY op))

/-- Quadrant x = 3: control, stack and immediates, with the eleven unrecognized values (R101, R103). `n` is byte 1, which
for the prefix is the extended opcode. -/
def decodeQuadrant3 (op n : Byte) (nn : Word) : Instr :=
  match fieldZ op with
  | 0 =>
    match fieldY op with
    | 4 => .ldhAtImmA n
    | 5 => .addSpOff n
    | 6 => .ldhAAtImm n
    | 7 => .ldHlSpOff n
    | y => Row.returnIf (condOfCode y)
  | 1 =>
    if fieldQ op then
      match fieldP op with
      | 0 => .ret
      | 1 => .reti
      | 2 => .jpHl
      | _ => .ldSpHl
    else Row.popPair (stackPairOfCode (fieldP op))
  | 2 =>
    match fieldY op with
    | 4 => .ldhAtCA
    | 5 => .ldAtWordA nn
    | 6 => .ldhAAtC
    | 7 => .ldAAtWord nn
    | y => Row.jumpIf (condOfCode y) nn
  | 3 =>
    match fieldY op with
    | 0 => .jpWord nn
    | 1 => decodeExtended n
    | 2 => .illegalD3
    | 3 => .illegalDB
    | 4 => .illegalE3
    | 5 => .illegalEB
    | 6 => .di
    | _ => .ei
  | 4 =>
    match fieldY op with
    | 4 => .illegalE4
    | 5 => .illegalEC
    | 6 => .illegalF4
    | 7 => .illegalFC
    | y => Row.callIf (condOfCode y) nn
  | 5 =>
    if fieldQ op then
      match fieldP op with
      | 0 => .callWord nn
      | 1 => .illegalDD
      | 2 => .illegalED
      | _ => .illegalFD
    else Row.pushPair (stackPairOfCode (fieldP op))
  | 6 => Row.aluImm (aluOfCode (fieldY op)) n
  | _ => Row.restart (code3OfCode (fieldY op))

/-- The cell of the primary map that the fields of byte 0 select (R92, R101), with the bytes that follow. -/
def decodeMap (b0 b1 b2 : Byte) : Instr :=
  let nn := Word.ofBytes b2 b1
  match fieldX b0 with
  | 0 => decodeQuadrant0 b0 b1 nn
  | 1 => decodeQuadrant1 b0
  | 2 => decodeQuadrant2 b0
  | _ => decodeQuadrant3 b0 b1 nn

/-- The instruction whose first three bytes are given; a byte past its length is ignored. An opcode of the parameter ILLEGAL
is unrecognized (R103), every other is its cell of the map. Total: every value of byte 0 stands for a row of the table
(R101), every value of an extended opcode is defined (R102). -/
def decodeBytes (b0 b1 b2 : Byte) : Instr :=
  match Machine.Params.illegal.lookup b0 with
  | some row => row
  | none => decodeMap b0 b1 b2

/-- Byte 0 of the instructions of three bytes (R105). -/
def opcodesOfLength3 : List Byte :=
  [0x01, 0x11, 0x21, 0x31, 0x08, 0xC2, 0xCA, 0xD2, 0xDA, 0xC3, 0xC4, 0xCC, 0xD4, 0xDC, 0xCD, 0xEA, 0xFA]

/-- Byte 0 of the instructions of two bytes: OP_N, OP_E and CB_OP (R105). -/
def opcodesOfLength2 : List Byte :=
  [0x06, 0x0E, 0x16, 0x1E, 0x26, 0x2E, 0x36, 0x3E, 0xC6, 0xCE, 0xD6, 0xDE, 0xE6, 0xEE, 0xF6, 0xFE, 0xE0, 0xF0, 0x10] ++
    [0x18, 0x20, 0x28, 0x30, 0x38, 0xE8, 0xF8] ++ [0xCB]

/-- The instruction's length, told from byte 0 (R105). -/
def lengthOfOpcode (b0 : Byte) : Nat :=
  if opcodesOfLength3.contains b0 then 3 else if opcodesOfLength2.contains b0 then 2 else 1

/-- Why a list of bytes is no instruction. -/
inductive DecodeError where
  /-- There is no byte. -/
  | noBytes
  /-- The bytes end inside the instruction: an immediate byte or the extended opcode is missing. -/
  | truncated
  deriving DecidableEq, Repr

/-- Decode the instruction at the head of a list of bytes, and give the rest. Total, rejecting by name. STOP is decided by
byte 0 alone: its second byte is skipped unread, and may be missing (R104, 90_conflicts.md C14; log entry 18). -/
def decode (bytes : List Byte) : Except DecodeError (Instr × List Byte) :=
  match bytes with
  | [] => .error .noBytes
  | b0 :: rest =>
    if b0 = 0x10 then .ok (.stop, rest.drop 1)
    else
      match lengthOfOpcode b0, rest with
      | 1, rest => .ok (decodeBytes b0 0 0, rest)
      | 2, b1 :: rest => .ok (decodeBytes b0 b1 0, rest)
      | 3, b1 :: b2 :: rest => .ok (decodeBytes b0 b1 b2, rest)
      | _, _ => .error .truncated

/-! ### The words of spec/opcode_table.json -/

/-- The three bytes of a table word `w` of `nbits` bits, zeros above. The table numbers the two bytes of an extended row as
one number with byte 0 in bits 15:8 (R106); every other word has its first byte in bits 7:0 (log entry 16). -/
def tableBytes (nbits w : Nat) : Byte × Byte × Byte :=
  let b0 := BitVec.ofNat 8 w
  let b1 := BitVec.ofNat 8 (w / 0x100)
  let b2 := BitVec.ofNat 8 (w / 0x10000)
  if nbits ≤ 8 then (b0, 0, 0)
  else if nbits ≤ 16 then (if b1 = 0xCB then (b1, b0, 0) else (b0, b1, 0))
  else (b0, b1, b2)

/-- The instruction the decoder reads from a table word. -/
def decodeTableWord (nbits w : Nat) : Option Instr :=
  let bytes := tableBytes nbits w
  match decode [bytes.1, bytes.2.1, bytes.2.2] with
  | .ok (i, _) => some i
  | .error _ => none

/-! ### The encoder -/

/-- The bytes of an instruction with an immediate word: low byte first (R100). -/
def wordBytes (opcode : Byte) (nn : Word) : List Byte := [opcode, nn.lo, nn.hi]

/-- The bytes of an instruction, by the cells of the maps of R101 and R102. STOP's second byte is the customary 0x00 (R104). -/
def encode : Instr → List Byte
  | .nop => [0x00]
  | .ldBcWord nn => wordBytes 0x01 nn
  | .ldAtBcA => [0x02]
  | .incBc => [0x03]
  | .incB => [0x04]
  | .decB => [0x05]
  | .ldBImm n => [0x06, n]
  | .rlca => [0x07]
  | .ldAtWordSp nn => wordBytes 0x08 nn
  | .addHlBc => [0x09]
  | .ldAAtBc => [0x0A]
  | .decBc => [0x0B]
  | .incC => [0x0C]
  | .decC => [0x0D]
  | .ldCImm n => [0x0E, n]
  | .rrca => [0x0F]
  | .stop => [0x10, 0x00]
  | .ldDeWord nn => wordBytes 0x11 nn
  | .ldAtDeA => [0x12]
  | .incDe => [0x13]
  | .incD => [0x14]
  | .decD => [0x15]
  | .ldDImm n => [0x16, n]
  | .rla => [0x17]
  | .jrOff e => [0x18, e]
  | .addHlDe => [0x19]
  | .ldAAtDe => [0x1A]
  | .decDe => [0x1B]
  | .incE => [0x1C]
  | .decE => [0x1D]
  | .ldEImm n => [0x1E, n]
  | .rra => [0x1F]
  | .jrNzOff e => [0x20, e]
  | .ldHlWord nn => wordBytes 0x21 nn
  | .ldAtHlIncA => [0x22]
  | .incHl => [0x23]
  | .incH => [0x24]
  | .decH => [0x25]
  | .ldHImm n => [0x26, n]
  | .daa => [0x27]
  | .jrZOff e => [0x28, e]
  | .addHlHl => [0x29]
  | .ldAAtHlInc => [0x2A]
  | .decHl => [0x2B]
  | .incL => [0x2C]
  | .decL => [0x2D]
  | .ldLImm n => [0x2E, n]
  | .cpl => [0x2F]
  | .jrNcOff e => [0x30, e]
  | .ldSpWord nn => wordBytes 0x31 nn
  | .ldAtHlDecA => [0x32]
  | .incSp => [0x33]
  | .incAtHl => [0x34]
  | .decAtHl => [0x35]
  | .ldAtHlImm n => [0x36, n]
  | .scf => [0x37]
  | .jrCOff e => [0x38, e]
  | .addHlSp => [0x39]
  | .ldAAtHlDec => [0x3A]
  | .decSp => [0x3B]
  | .incA => [0x3C]
  | .decA => [0x3D]
  | .ldAImm n => [0x3E, n]
  | .ccf => [0x3F]
  | .ldBB => [0x40]
  | .ldBC => [0x41]
  | .ldBD => [0x42]
  | .ldBE => [0x43]
  | .ldBH => [0x44]
  | .ldBL => [0x45]
  | .ldBAtHl => [0x46]
  | .ldBA => [0x47]
  | .ldCB => [0x48]
  | .ldCC => [0x49]
  | .ldCD => [0x4A]
  | .ldCE => [0x4B]
  | .ldCH => [0x4C]
  | .ldCL => [0x4D]
  | .ldCAtHl => [0x4E]
  | .ldCA => [0x4F]
  | .ldDB => [0x50]
  | .ldDC => [0x51]
  | .ldDD => [0x52]
  | .ldDE => [0x53]
  | .ldDH => [0x54]
  | .ldDL => [0x55]
  | .ldDAtHl => [0x56]
  | .ldDA => [0x57]
  | .ldEB => [0x58]
  | .ldEC => [0x59]
  | .ldED => [0x5A]
  | .ldEE => [0x5B]
  | .ldEH => [0x5C]
  | .ldEL => [0x5D]
  | .ldEAtHl => [0x5E]
  | .ldEA => [0x5F]
  | .ldHB => [0x60]
  | .ldHC => [0x61]
  | .ldHD => [0x62]
  | .ldHE => [0x63]
  | .ldHH => [0x64]
  | .ldHL => [0x65]
  | .ldHAtHl => [0x66]
  | .ldHA => [0x67]
  | .ldLB => [0x68]
  | .ldLC => [0x69]
  | .ldLD => [0x6A]
  | .ldLE => [0x6B]
  | .ldLH => [0x6C]
  | .ldLL => [0x6D]
  | .ldLAtHl => [0x6E]
  | .ldLA => [0x6F]
  | .ldAtHlB => [0x70]
  | .ldAtHlC => [0x71]
  | .ldAtHlD => [0x72]
  | .ldAtHlE => [0x73]
  | .ldAtHlH => [0x74]
  | .ldAtHlL => [0x75]
  | .halt => [0x76]
  | .ldAtHlA => [0x77]
  | .ldAB => [0x78]
  | .ldAC => [0x79]
  | .ldAD => [0x7A]
  | .ldAE => [0x7B]
  | .ldAH => [0x7C]
  | .ldAL => [0x7D]
  | .ldAAtHl => [0x7E]
  | .ldAA => [0x7F]
  | .addAB => [0x80]
  | .addAC => [0x81]
  | .addAD => [0x82]
  | .addAE => [0x83]
  | .addAH => [0x84]
  | .addAL => [0x85]
  | .addAAtHl => [0x86]
  | .addAA => [0x87]
  | .adcAB => [0x88]
  | .adcAC => [0x89]
  | .adcAD => [0x8A]
  | .adcAE => [0x8B]
  | .adcAH => [0x8C]
  | .adcAL => [0x8D]
  | .adcAAtHl => [0x8E]
  | .adcAA => [0x8F]
  | .subAB => [0x90]
  | .subAC => [0x91]
  | .subAD => [0x92]
  | .subAE => [0x93]
  | .subAH => [0x94]
  | .subAL => [0x95]
  | .subAAtHl => [0x96]
  | .subAA => [0x97]
  | .sbcAB => [0x98]
  | .sbcAC => [0x99]
  | .sbcAD => [0x9A]
  | .sbcAE => [0x9B]
  | .sbcAH => [0x9C]
  | .sbcAL => [0x9D]
  | .sbcAAtHl => [0x9E]
  | .sbcAA => [0x9F]
  | .andAB => [0xA0]
  | .andAC => [0xA1]
  | .andAD => [0xA2]
  | .andAE => [0xA3]
  | .andAH => [0xA4]
  | .andAL => [0xA5]
  | .andAAtHl => [0xA6]
  | .andAA => [0xA7]
  | .xorAB => [0xA8]
  | .xorAC => [0xA9]
  | .xorAD => [0xAA]
  | .xorAE => [0xAB]
  | .xorAH => [0xAC]
  | .xorAL => [0xAD]
  | .xorAAtHl => [0xAE]
  | .xorAA => [0xAF]
  | .orAB => [0xB0]
  | .orAC => [0xB1]
  | .orAD => [0xB2]
  | .orAE => [0xB3]
  | .orAH => [0xB4]
  | .orAL => [0xB5]
  | .orAAtHl => [0xB6]
  | .orAA => [0xB7]
  | .cpAB => [0xB8]
  | .cpAC => [0xB9]
  | .cpAD => [0xBA]
  | .cpAE => [0xBB]
  | .cpAH => [0xBC]
  | .cpAL => [0xBD]
  | .cpAAtHl => [0xBE]
  | .cpAA => [0xBF]
  | .retNz => [0xC0]
  | .popBc => [0xC1]
  | .jpNzWord nn => wordBytes 0xC2 nn
  | .jpWord nn => wordBytes 0xC3 nn
  | .callNzWord nn => wordBytes 0xC4 nn
  | .pushBc => [0xC5]
  | .addAImm n => [0xC6, n]
  | .rst00 => [0xC7]
  | .retZ => [0xC8]
  | .ret => [0xC9]
  | .jpZWord nn => wordBytes 0xCA nn
  | .callZWord nn => wordBytes 0xCC nn
  | .callWord nn => wordBytes 0xCD nn
  | .adcAImm n => [0xCE, n]
  | .rst08 => [0xCF]
  | .retNc => [0xD0]
  | .popDe => [0xD1]
  | .jpNcWord nn => wordBytes 0xD2 nn
  | .illegalD3 => [0xD3]
  | .callNcWord nn => wordBytes 0xD4 nn
  | .pushDe => [0xD5]
  | .subAImm n => [0xD6, n]
  | .rst10 => [0xD7]
  | .retC => [0xD8]
  | .reti => [0xD9]
  | .jpCWord nn => wordBytes 0xDA nn
  | .illegalDB => [0xDB]
  | .callCWord nn => wordBytes 0xDC nn
  | .illegalDD => [0xDD]
  | .sbcAImm n => [0xDE, n]
  | .rst18 => [0xDF]
  | .ldhAtImmA n => [0xE0, n]
  | .popHl => [0xE1]
  | .ldhAtCA => [0xE2]
  | .illegalE3 => [0xE3]
  | .illegalE4 => [0xE4]
  | .pushHl => [0xE5]
  | .andAImm n => [0xE6, n]
  | .rst20 => [0xE7]
  | .addSpOff e => [0xE8, e]
  | .jpHl => [0xE9]
  | .ldAtWordA nn => wordBytes 0xEA nn
  | .illegalEB => [0xEB]
  | .illegalEC => [0xEC]
  | .illegalED => [0xED]
  | .xorAImm n => [0xEE, n]
  | .rst28 => [0xEF]
  | .ldhAAtImm n => [0xF0, n]
  | .popAf => [0xF1]
  | .ldhAAtC => [0xF2]
  | .di => [0xF3]
  | .illegalF4 => [0xF4]
  | .pushAf => [0xF5]
  | .orAImm n => [0xF6, n]
  | .rst30 => [0xF7]
  | .ldHlSpOff e => [0xF8, e]
  | .ldSpHl => [0xF9]
  | .ldAAtWord nn => wordBytes 0xFA nn
  | .ei => [0xFB]
  | .illegalFC => [0xFC]
  | .illegalFD => [0xFD]
  | .cpAImm n => [0xFE, n]
  | .rst38 => [0xFF]
  | .rlcB => [0xCB, 0x00]
  | .rlcC => [0xCB, 0x01]
  | .rlcD => [0xCB, 0x02]
  | .rlcE => [0xCB, 0x03]
  | .rlcH => [0xCB, 0x04]
  | .rlcL => [0xCB, 0x05]
  | .rlcAtHl => [0xCB, 0x06]
  | .rlcA => [0xCB, 0x07]
  | .rrcB => [0xCB, 0x08]
  | .rrcC => [0xCB, 0x09]
  | .rrcD => [0xCB, 0x0A]
  | .rrcE => [0xCB, 0x0B]
  | .rrcH => [0xCB, 0x0C]
  | .rrcL => [0xCB, 0x0D]
  | .rrcAtHl => [0xCB, 0x0E]
  | .rrcA => [0xCB, 0x0F]
  | .rlB => [0xCB, 0x10]
  | .rlC => [0xCB, 0x11]
  | .rlD => [0xCB, 0x12]
  | .rlE => [0xCB, 0x13]
  | .rlH => [0xCB, 0x14]
  | .rlL => [0xCB, 0x15]
  | .rlAtHl => [0xCB, 0x16]
  | .rlA => [0xCB, 0x17]
  | .rrB => [0xCB, 0x18]
  | .rrC => [0xCB, 0x19]
  | .rrD => [0xCB, 0x1A]
  | .rrE => [0xCB, 0x1B]
  | .rrH => [0xCB, 0x1C]
  | .rrL => [0xCB, 0x1D]
  | .rrAtHl => [0xCB, 0x1E]
  | .rrA => [0xCB, 0x1F]
  | .slaB => [0xCB, 0x20]
  | .slaC => [0xCB, 0x21]
  | .slaD => [0xCB, 0x22]
  | .slaE => [0xCB, 0x23]
  | .slaH => [0xCB, 0x24]
  | .slaL => [0xCB, 0x25]
  | .slaAtHl => [0xCB, 0x26]
  | .slaA => [0xCB, 0x27]
  | .sraB => [0xCB, 0x28]
  | .sraC => [0xCB, 0x29]
  | .sraD => [0xCB, 0x2A]
  | .sraE => [0xCB, 0x2B]
  | .sraH => [0xCB, 0x2C]
  | .sraL => [0xCB, 0x2D]
  | .sraAtHl => [0xCB, 0x2E]
  | .sraA => [0xCB, 0x2F]
  | .swapB => [0xCB, 0x30]
  | .swapC => [0xCB, 0x31]
  | .swapD => [0xCB, 0x32]
  | .swapE => [0xCB, 0x33]
  | .swapH => [0xCB, 0x34]
  | .swapL => [0xCB, 0x35]
  | .swapAtHl => [0xCB, 0x36]
  | .swapA => [0xCB, 0x37]
  | .srlB => [0xCB, 0x38]
  | .srlC => [0xCB, 0x39]
  | .srlD => [0xCB, 0x3A]
  | .srlE => [0xCB, 0x3B]
  | .srlH => [0xCB, 0x3C]
  | .srlL => [0xCB, 0x3D]
  | .srlAtHl => [0xCB, 0x3E]
  | .srlA => [0xCB, 0x3F]
  | .bit0B => [0xCB, 0x40]
  | .bit0C => [0xCB, 0x41]
  | .bit0D => [0xCB, 0x42]
  | .bit0E => [0xCB, 0x43]
  | .bit0H => [0xCB, 0x44]
  | .bit0L => [0xCB, 0x45]
  | .bit0AtHl => [0xCB, 0x46]
  | .bit0A => [0xCB, 0x47]
  | .bit1B => [0xCB, 0x48]
  | .bit1C => [0xCB, 0x49]
  | .bit1D => [0xCB, 0x4A]
  | .bit1E => [0xCB, 0x4B]
  | .bit1H => [0xCB, 0x4C]
  | .bit1L => [0xCB, 0x4D]
  | .bit1AtHl => [0xCB, 0x4E]
  | .bit1A => [0xCB, 0x4F]
  | .bit2B => [0xCB, 0x50]
  | .bit2C => [0xCB, 0x51]
  | .bit2D => [0xCB, 0x52]
  | .bit2E => [0xCB, 0x53]
  | .bit2H => [0xCB, 0x54]
  | .bit2L => [0xCB, 0x55]
  | .bit2AtHl => [0xCB, 0x56]
  | .bit2A => [0xCB, 0x57]
  | .bit3B => [0xCB, 0x58]
  | .bit3C => [0xCB, 0x59]
  | .bit3D => [0xCB, 0x5A]
  | .bit3E => [0xCB, 0x5B]
  | .bit3H => [0xCB, 0x5C]
  | .bit3L => [0xCB, 0x5D]
  | .bit3AtHl => [0xCB, 0x5E]
  | .bit3A => [0xCB, 0x5F]
  | .bit4B => [0xCB, 0x60]
  | .bit4C => [0xCB, 0x61]
  | .bit4D => [0xCB, 0x62]
  | .bit4E => [0xCB, 0x63]
  | .bit4H => [0xCB, 0x64]
  | .bit4L => [0xCB, 0x65]
  | .bit4AtHl => [0xCB, 0x66]
  | .bit4A => [0xCB, 0x67]
  | .bit5B => [0xCB, 0x68]
  | .bit5C => [0xCB, 0x69]
  | .bit5D => [0xCB, 0x6A]
  | .bit5E => [0xCB, 0x6B]
  | .bit5H => [0xCB, 0x6C]
  | .bit5L => [0xCB, 0x6D]
  | .bit5AtHl => [0xCB, 0x6E]
  | .bit5A => [0xCB, 0x6F]
  | .bit6B => [0xCB, 0x70]
  | .bit6C => [0xCB, 0x71]
  | .bit6D => [0xCB, 0x72]
  | .bit6E => [0xCB, 0x73]
  | .bit6H => [0xCB, 0x74]
  | .bit6L => [0xCB, 0x75]
  | .bit6AtHl => [0xCB, 0x76]
  | .bit6A => [0xCB, 0x77]
  | .bit7B => [0xCB, 0x78]
  | .bit7C => [0xCB, 0x79]
  | .bit7D => [0xCB, 0x7A]
  | .bit7E => [0xCB, 0x7B]
  | .bit7H => [0xCB, 0x7C]
  | .bit7L => [0xCB, 0x7D]
  | .bit7AtHl => [0xCB, 0x7E]
  | .bit7A => [0xCB, 0x7F]
  | .res0B => [0xCB, 0x80]
  | .res0C => [0xCB, 0x81]
  | .res0D => [0xCB, 0x82]
  | .res0E => [0xCB, 0x83]
  | .res0H => [0xCB, 0x84]
  | .res0L => [0xCB, 0x85]
  | .res0AtHl => [0xCB, 0x86]
  | .res0A => [0xCB, 0x87]
  | .res1B => [0xCB, 0x88]
  | .res1C => [0xCB, 0x89]
  | .res1D => [0xCB, 0x8A]
  | .res1E => [0xCB, 0x8B]
  | .res1H => [0xCB, 0x8C]
  | .res1L => [0xCB, 0x8D]
  | .res1AtHl => [0xCB, 0x8E]
  | .res1A => [0xCB, 0x8F]
  | .res2B => [0xCB, 0x90]
  | .res2C => [0xCB, 0x91]
  | .res2D => [0xCB, 0x92]
  | .res2E => [0xCB, 0x93]
  | .res2H => [0xCB, 0x94]
  | .res2L => [0xCB, 0x95]
  | .res2AtHl => [0xCB, 0x96]
  | .res2A => [0xCB, 0x97]
  | .res3B => [0xCB, 0x98]
  | .res3C => [0xCB, 0x99]
  | .res3D => [0xCB, 0x9A]
  | .res3E => [0xCB, 0x9B]
  | .res3H => [0xCB, 0x9C]
  | .res3L => [0xCB, 0x9D]
  | .res3AtHl => [0xCB, 0x9E]
  | .res3A => [0xCB, 0x9F]
  | .res4B => [0xCB, 0xA0]
  | .res4C => [0xCB, 0xA1]
  | .res4D => [0xCB, 0xA2]
  | .res4E => [0xCB, 0xA3]
  | .res4H => [0xCB, 0xA4]
  | .res4L => [0xCB, 0xA5]
  | .res4AtHl => [0xCB, 0xA6]
  | .res4A => [0xCB, 0xA7]
  | .res5B => [0xCB, 0xA8]
  | .res5C => [0xCB, 0xA9]
  | .res5D => [0xCB, 0xAA]
  | .res5E => [0xCB, 0xAB]
  | .res5H => [0xCB, 0xAC]
  | .res5L => [0xCB, 0xAD]
  | .res5AtHl => [0xCB, 0xAE]
  | .res5A => [0xCB, 0xAF]
  | .res6B => [0xCB, 0xB0]
  | .res6C => [0xCB, 0xB1]
  | .res6D => [0xCB, 0xB2]
  | .res6E => [0xCB, 0xB3]
  | .res6H => [0xCB, 0xB4]
  | .res6L => [0xCB, 0xB5]
  | .res6AtHl => [0xCB, 0xB6]
  | .res6A => [0xCB, 0xB7]
  | .res7B => [0xCB, 0xB8]
  | .res7C => [0xCB, 0xB9]
  | .res7D => [0xCB, 0xBA]
  | .res7E => [0xCB, 0xBB]
  | .res7H => [0xCB, 0xBC]
  | .res7L => [0xCB, 0xBD]
  | .res7AtHl => [0xCB, 0xBE]
  | .res7A => [0xCB, 0xBF]
  | .set0B => [0xCB, 0xC0]
  | .set0C => [0xCB, 0xC1]
  | .set0D => [0xCB, 0xC2]
  | .set0E => [0xCB, 0xC3]
  | .set0H => [0xCB, 0xC4]
  | .set0L => [0xCB, 0xC5]
  | .set0AtHl => [0xCB, 0xC6]
  | .set0A => [0xCB, 0xC7]
  | .set1B => [0xCB, 0xC8]
  | .set1C => [0xCB, 0xC9]
  | .set1D => [0xCB, 0xCA]
  | .set1E => [0xCB, 0xCB]
  | .set1H => [0xCB, 0xCC]
  | .set1L => [0xCB, 0xCD]
  | .set1AtHl => [0xCB, 0xCE]
  | .set1A => [0xCB, 0xCF]
  | .set2B => [0xCB, 0xD0]
  | .set2C => [0xCB, 0xD1]
  | .set2D => [0xCB, 0xD2]
  | .set2E => [0xCB, 0xD3]
  | .set2H => [0xCB, 0xD4]
  | .set2L => [0xCB, 0xD5]
  | .set2AtHl => [0xCB, 0xD6]
  | .set2A => [0xCB, 0xD7]
  | .set3B => [0xCB, 0xD8]
  | .set3C => [0xCB, 0xD9]
  | .set3D => [0xCB, 0xDA]
  | .set3E => [0xCB, 0xDB]
  | .set3H => [0xCB, 0xDC]
  | .set3L => [0xCB, 0xDD]
  | .set3AtHl => [0xCB, 0xDE]
  | .set3A => [0xCB, 0xDF]
  | .set4B => [0xCB, 0xE0]
  | .set4C => [0xCB, 0xE1]
  | .set4D => [0xCB, 0xE2]
  | .set4E => [0xCB, 0xE3]
  | .set4H => [0xCB, 0xE4]
  | .set4L => [0xCB, 0xE5]
  | .set4AtHl => [0xCB, 0xE6]
  | .set4A => [0xCB, 0xE7]
  | .set5B => [0xCB, 0xE8]
  | .set5C => [0xCB, 0xE9]
  | .set5D => [0xCB, 0xEA]
  | .set5E => [0xCB, 0xEB]
  | .set5H => [0xCB, 0xEC]
  | .set5L => [0xCB, 0xED]
  | .set5AtHl => [0xCB, 0xEE]
  | .set5A => [0xCB, 0xEF]
  | .set6B => [0xCB, 0xF0]
  | .set6C => [0xCB, 0xF1]
  | .set6D => [0xCB, 0xF2]
  | .set6E => [0xCB, 0xF3]
  | .set6H => [0xCB, 0xF4]
  | .set6L => [0xCB, 0xF5]
  | .set6AtHl => [0xCB, 0xF6]
  | .set6A => [0xCB, 0xF7]
  | .set7B => [0xCB, 0xF8]
  | .set7C => [0xCB, 0xF9]
  | .set7D => [0xCB, 0xFA]
  | .set7E => [0xCB, 0xFB]
  | .set7H => [0xCB, 0xFC]
  | .set7L => [0xCB, 0xFD]
  | .set7AtHl => [0xCB, 0xFE]
  | .set7A => [0xCB, 0xFF]

end Sys2Proof
end

