-- ==== Sys2Proof/Machine/State.lean ====
section
/-! DEFINITION. The complete state of the machine (10_state.md R20) as plain data, the outcomes of a step, and the state
after reset (R55). -/

namespace Sys2Proof.Machine

/-- The fatal fault's record (60_exceptions.md R311): why the machine stopped and where. -/
inductive FaultRecord where
  /-- One of the eleven unrecognized opcodes was executed (46_system.md R266). -/
  | illegalOpcode (pc : Word) (opcode : Byte)
  /-- STOP was executed (46_system.md R262). -/
  | stop (pc : Word)
  deriving DecidableEq, Repr

/-- The PPU's 2-bit mode (10_state.md R50). -/
inductive LcdMode where
  | hblank | vblank | oamSearch | pixelTransfer
  deriving DecidableEq, Repr

/-- The 64 KiB of bytes: address and byte, addresses strictly rising, no entry equal to what an unlisted address reads as
(`Memory.wf` in Machine/Ops.lean). -/
abbrev Memory := List Host.Cell

/-- A 160x144 surface as 144 rows of 160 cells, row 0 at the top, column 0 leftmost (10_state.md R52, log entry 15). -/
abbrev Surface (cell : Type) := List (List cell)

/-- Every cell of a surface the same. -/
def Surface.filled {cell : Type} (x : cell) : Surface cell :=
  List.replicate Config.screenHeight (List.replicate Config.screenWidth x)

/-- The machine's state (R20). The memory-mapped registers of R40 are bytes of `mem` and have no other home. -/
structure State where
  /-- The accumulator (R21). -/
  a : Byte
  /-- The flag byte: Z N H C in bits 7 6 5 4, bits 3:0 zero in every reachable state (R24, R25). -/
  f : Byte
  b : Byte
  c : Byte
  d : Byte
  e : Byte
  h : Byte
  l : Byte
  /-- The stack pointer (R27). -/
  sp : Word
  /-- The program counter: between steps the address of the next instruction's first byte (R28). -/
  pc : Word
  /-- Interrupt master enable (R30). -/
  ime : Bool
  /-- The halted flag (R31). -/
  halted : Bool
  /-- The cost of the instruction just executed (R32). -/
  numCycles : Nat
  /-- None, or the fatal fault that stopped the machine (R33). -/
  fault : Option FaultRecord
  /-- The bus: every byte of the address space, the memory-mapped registers among them (R40, R56). -/
  mem : Memory
  /-- Cycles accumulated since DIV last incremented (R51). -/
  divAcc : Nat
  /-- Cycles left before TIMA steps; zero or negative only inside a step (R51). -/
  countdown : Int
  /-- 456 minus the cycles elapsed in the current line (R52). -/
  lineCounter : Int
  /-- The PPU's own copy of the mode (R50, R52). -/
  mode : LcdMode
  /-- Rows rendered in the current frame pass (R52). -/
  linesRendered : Nat
  /-- The background surface: shades (R52). -/
  bgSurface : Surface Shade
  /-- The window surface: a shade, or `none` for Transparent (R52). -/
  winSurface : Surface (Option Shade)
  /-- The sprite surface: a shade, or `none` for Transparent (R52). -/
  sprSurface : Surface (Option Shade)
  /-- The frame the host reads (R52). -/
  frameBuffer : Surface Shade
  /-- The MODEL's own field: how many FrameReady events there have been (60_exceptions.md R365, log entry 3). -/
  frames : Nat
  deriving DecidableEq, Repr

/-- The ways a step can stop with a fault: none. The spec's fatal fault is a state the machine enters and stays in
(60_exceptions.md R310), so it is a next state with `State.fault` set, and every other condition is ordinary behaviour
(R312). Nobody raises a `Fault`; safe and unsafe do not arise. -/
inductive Fault where
  deriving DecidableEq, Repr

/-- The ways an instruction can be refused. -/
inductive Refusal where
  /-- The instruction of this mnemonic has no meaning in the model yet. Raised only by an arm of `exec` in
  Machine/Dispatch.lean, and at present by none; safe. -/
  | notModelled (mnemonic : String)
  deriving DecidableEq, Repr

/-- What a meaning and a step answer. -/
abbrev Result := Host.Outcome State Fault Refusal

/-- The machine right after reset (R55), with a memory that lists nothing: an unlisted address reads as its reset value
where the spec gives one (the registers of R40) and as 0x00 elsewhere (log entries 1 and 2). -/
def State.reset : State where
  a := 0x01
  f := 0xB0
  b := 0x00
  c := 0x13
  d := 0x00
  e := 0xD8
  h := 0x01
  l := 0x4D
  sp := 0xFFFE
  pc := 0x0100
  ime := false
  halted := false
  numCycles := 0
  fault := none
  mem := []
  divAcc := 0
  countdown := 1024
  lineCounter := 456
  mode := .oamSearch
  linesRendered := 0
  bgSurface := Surface.filled 0
  winSurface := Surface.filled none
  sprSurface := Surface.filled none
  frameBuffer := Surface.filled 0
  frames := 0

end Sys2Proof.Machine
end

