-- ==== Sys2Proof/Machine/Ops.lean ====
section
/-! DEFINITION. The named operations over memory and registers: the bus and its canonical form (20_memory.md), the
setters of State, Push16 and Pop16, the fetch's program counter, the fatal fault (60_exceptions.md R310), taking an
interrupt (R324) and returning from one (45_control.md R250). -/

namespace Sys2Proof.Machine

/-! ### The bus -/

/-- What an address that the memory does not list reads as: the reset contents where the spec gives them (the registers
of 10_state.md R40, R55), 0x00 elsewhere (log entry 1). -/
def Memory.background (k : Nat) : Byte :=
  match Params.ioReset.find? fun r => r.1.toNat == k with
  | some r => r.2
  | none => 0x00

/-- The byte the memory holds at key `k`. -/
def Memory.lookup : Memory → Nat → Byte
  | [], k => Memory.background k
  | cell :: rest, k => if cell.1 = k then cell.2 else Memory.lookup rest k

/-- The memory without any entry for key `k`. -/
def Memory.erase (m : Memory) (k : Nat) : Memory :=
  m.filter fun cell => cell.1 != k

/-- Insert an entry before the first entry of a greater key. -/
def Memory.place : Memory → Nat → Byte → Memory
  | [], k, v => [(k, v)]
  | cell :: rest, k, v => if k < cell.1 then (k, v) :: cell :: rest else cell :: Memory.place rest k v

/-- Store a byte at key `k`, keeping the canonical form: no entry where the value is what an unlisted address reads as. -/
def Memory.store (m : Memory) (k : Nat) (v : Byte) : Memory :=
  if v = Memory.background k then m.erase k else (m.erase k).place k v

/-- The canonical form: addresses below 2^16 and strictly rising, no entry equal to what an unlisted address reads as. -/
def Memory.wf : Memory → Bool
  | [] => true
  | cell :: rest =>
    decide (cell.1 < 0x10000) && decide (cell.2 ≠ Memory.background cell.1) &&
      rest.all (fun other => decide (cell.1 < other.1)) && Memory.wf rest

/-- A memory collaborator, the parameter `Bus` (00_scope.md R7, 20_memory.md R60): what a read of an address returns, and
what a write of a byte to an address leaves of the memory. A read changes nothing (R61). The accesses written `MemRead` and
`MemWrite` in the spec go through it; those of the hardware blocks to their registers do not (R77, `State.cellRead`). -/
structure Bus where
  read : Memory → Word → Byte
  write : Memory → Word → Byte → Memory

/-- The default bus: a flat array of 65536 bytes, every address readable and writable, no side effect (R60). -/
def Bus.flat : Bus where
  read m addr := m.lookup addr.toNat
  write m addr v := m.store addr.toNat v

/-- `Bus` (decision D1, log entry 4). -/
def Params.bus : Bus := Bus.flat

/-! ### Setters of State, one per field -/

def State.setF (s : State) (v : Byte) : State := { s with f := v }
def State.setSp (s : State) (v : Word) : State := { s with sp := v }
def State.setPc (s : State) (v : Word) : State := { s with pc := v }
def State.setIme (s : State) (v : Bool) : State := { s with ime := v }
def State.setHalted (s : State) (v : Bool) : State := { s with halted := v }
def State.setNumCycles (s : State) (v : Nat) : State := { s with numCycles := v }
def State.setFault (s : State) (v : Option FaultRecord) : State := { s with fault := v }
def State.setMem (s : State) (v : Memory) : State := { s with mem := v }
def State.setDivAcc (s : State) (v : Nat) : State := { s with divAcc := v }
def State.setCountdown (s : State) (v : Int) : State := { s with countdown := v }
def State.setLineCounter (s : State) (v : Int) : State := { s with lineCounter := v }
def State.setMode (s : State) (v : LcdMode) : State := { s with mode := v }
def State.setLinesRendered (s : State) (v : Nat) : State := { s with linesRendered := v }
def State.setBgSurface (s : State) (v : Surface Shade) : State := { s with bgSurface := v }
def State.setWinSurface (s : State) (v : Surface (Option Shade)) : State := { s with winSurface := v }
def State.setSprSurface (s : State) (v : Surface (Option Shade)) : State := { s with sprSurface := v }
def State.setFrameBuffer (s : State) (v : Surface Shade) : State := { s with frameBuffer := v }
def State.setFrames (s : State) (v : Nat) : State := { s with frames := v }

/-! ### Memory accesses -/

/-- `MemRead(addr, 1)` (00_scope.md R10, 20_memory.md R60). -/
def State.memRead (s : State) (addr : Word) : Byte := Params.bus.read s.mem addr

/-- `MemWrite(addr, 1, v)` (00_scope.md R10, 20_memory.md R60). -/
def State.memWrite (s : State) (addr : Word) (v : Byte) : State := s.setMem (Params.bus.write s.mem addr v)

/-- `Mem[addr]`, the cell itself: how TIMER, PPU, IC and the host read a register, past any substituted bus (20_memory.md
R77). -/
def State.cellRead (s : State) (addr : Word) : Byte := s.mem.lookup addr.toNat

/-- `Mem[addr] <- v`, the cell itself: how TIMER, PPU, IC and the host write a register, past any write protection of a
substituted bus (20_memory.md R77; reset: 70_reset_and_hazards.md R400). -/
def State.cellWrite (s : State) (addr : Word) (v : Byte) : State := s.setMem (s.mem.store addr.toNat v)

/-- `MemWrite(addr, 2, v)`: the low byte first, at the lower address (00_scope.md R10, 20_memory.md R63). -/
def State.memWrite16 (s : State) (addr : Word) (v : Word) : State :=
  (s.memWrite addr v.lo).memWrite (addr + 1) v.hi

/-- `Push16(v)` (20_memory.md R66): high byte then low byte, the stack pointer decremented before each. -/
def State.push16 (s : State) (v : Word) : State :=
  let s := s.setSp (s.sp - 1)
  let s := s.memWrite s.sp v.hi
  let s := s.setSp (s.sp - 1)
  s.memWrite s.sp v.lo

/-- The word `Pop16()` returns (20_memory.md R67). -/
def State.stackTop (s : State) : Word := Word.ofBytes (s.memRead (s.sp + 1)) (s.memRead s.sp)

/-- The state `Pop16()` leaves: SP past the two bytes (20_memory.md R67). -/
def State.dropTop (s : State) : State := s.setSp (s.sp + 2)

/-! ### Registers -/

/-- A register read (00_scope.md R9). -/
def State.reg (s : State) : Reg → Byte
  | .b => s.b | .c => s.c | .d => s.d | .e => s.e | .h => s.h | .l => s.l | .a => s.a

/-- A register write (00_scope.md R9). -/
def State.setReg (s : State) (r : Reg) (v : Byte) : State :=
  match r with
  | .b => { s with b := v }
  | .c => { s with c := v }
  | .d => { s with d := v }
  | .e => { s with e := v }
  | .h => { s with h := v }
  | .l => { s with l := v }
  | .a => { s with a := v }

/-- A pair as one 16-bit value, the first-named register in bits 15:8 (10_state.md R23). -/
def State.pair (s : State) : Pair → Word
  | .bc => Word.ofBytes s.b s.c
  | .de => Word.ofBytes s.d s.e
  | .hl => Word.ofBytes s.h s.l
  | .sp => s.sp

/-- A write through a pair writes its two registers (10_state.md R23). -/
def State.setPair (s : State) (p : Pair) (v : Word) : State :=
  match p with
  | .bc => (s.setReg .b v.hi).setReg .c v.lo
  | .de => (s.setReg .d v.hi).setReg .e v.lo
  | .hl => (s.setReg .h v.hi).setReg .l v.lo
  | .sp => s.setSp v

/-- The pair PUSH stores (30_encoding.md R96): AF is A and F. -/
def State.stackPair (s : State) : StackPair → Word
  | .bc => s.pair .bc
  | .de => s.pair .de
  | .hl => s.pair .hl
  | .af => Word.ofBytes s.a s.f

/-- The pair POP writes: a write to AF clears F's low nibble (10_state.md R23, R24; 41_loads16_stack.md R144). -/
def State.setStackPair (s : State) (p : StackPair) (v : Word) : State :=
  match p with
  | .bc => s.setPair .bc v
  | .de => s.setPair .de v
  | .hl => s.setPair .hl v
  | .af => (s.setReg .a v.hi).setF (v.lo &&& 0xF0)

/-- The address in HL. -/
def State.hl (s : State) : Word := s.pair .hl

/-! ### The start and the end of an instruction -/

/-- The instruction's `len` bytes have been fetched: `num_cycles` was reset and PC is past them (60_exceptions.md R301,
00_scope.md R11). -/
def State.fetched (s : State) (len : Nat) : State := (s.setPc (s.pc + BitVec.ofNat 16 len)).setNumCycles 0

/-- The instruction is complete and cost `cycles` (60_exceptions.md R301, 10_state.md R32; the figures are `Params.cost`). -/
def State.done (s : State) (cycles : Nat) : Result := .next (s.setNumCycles cycles)

/-! ### Exceptions -/

/-- `raise Fault(kind, info)` in the instruction whose first byte is at the PC of `s`: PC stays on that byte,
`num_cycles` is 0, the record is kept, nothing else changes (60_exceptions.md R310). A NEXT state (log entry 5). -/
def State.raiseFault (s : State) (r : FaultRecord) : Result := .next ((s.setNumCycles 0).setFault (some r))

/-- `request(s)`: set the source's pending bit in IF (60_exceptions.md R321). -/
def State.request (s : State) (src : IntSource) : State :=
  s.cellWrite Params.intFlag (s.cellRead Params.intFlag ||| (1#8 <<< src.index))

/-- Clear the source's pending bit in IF (60_exceptions.md R322). -/
def State.clearPending (s : State) (src : IntSource) : State :=
  s.cellWrite Params.intFlag (s.cellRead Params.intFlag &&& ~~~(1#8 <<< src.index))

/-- Dispatch of an interrupt (60_exceptions.md R322, R324): clear IME, clear the source's pending bit, push PC, jump to
the source's fixed vector. -/
def State.takeInterrupt (s : State) (src : IntSource) : State :=
  let s := (s.setIme false).clearPending src
  (s.push16 s.pc).setPc (Params.vector src)

/-- RETI's effect: pop PC, then set IME; nothing else is restored (45_control.md R250, 60_exceptions.md R327). -/
def State.returnFromInterrupt (s : State) : State := (s.dropTop.setPc s.stackTop).setIme true

end Sys2Proof.Machine
end

