-- ==== Sys2Proof/Machine/Flags.lean ====
section
/-! DEFINITION. The flag byte (10_state.md R24, R25) and every computation that produces flags: Add8, Sub8 (42_alu8.md),
the ALU operations, DAA, AddSPe and the 16-bit addition (43_alu16.md), Rot (44_rotate_shift_bit.md). -/

namespace Sys2Proof.Machine

/-- F.Z = F[7] (R25). -/
def State.flagZ (s : State) : Bool := s.f.getLsbD 7

/-- F.N = F[6] (R25). -/
def State.flagN (s : State) : Bool := s.f.getLsbD 6

/-- F.H = F[5] (R25). -/
def State.flagH (s : State) : Bool := s.f.getLsbD 5

/-- F.C = F[4] (R25). -/
def State.flagC (s : State) : Bool := s.f.getLsbD 4

/-- The flag byte of four flags, low nibble zero (R24, R25). -/
def packFlags (z n h c : Bool) : Byte :=
  BitVec.ofBool z ++ BitVec.ofBool n ++ BitVec.ofBool h ++ BitVec.ofBool c ++ 0#4

/-- Write all four flags. Every rule that writes F writes zero in its low nibble (R24), so a rule that writes some of the
flags is this with the others as they were (log entry 19). -/
def State.setFlags (s : State) (z n h c : Bool) : State := s.setF (packFlags z n h c)

/-- A result byte with its zero, half-carry and carry flags. -/
structure ByteResult where
  res : Byte
  z : Bool
  h : Bool
  c : Bool
  deriving DecidableEq, Repr

/-- `Add8(a, b, cin)` (42_alu8.md R182). -/
def add8 (a b : Byte) (cin : Bool) : ByteResult :=
  let sum := a.toNat + b.toNat + cin.toNat
  let res := BitVec.ofNat 8 sum
  { res := res
    z := res == 0
    h := decide (a.toNat % 16 + b.toNat % 16 + cin.toNat > 0xF)
    c := decide (sum > 0xFF) }

/-- `Sub8(a, b, cin)` (42_alu8.md R183). -/
def sub8 (a b : Byte) (cin : Bool) : ByteResult :=
  let diff : Int := (a.toNat : Int) - (b.toNat : Int) - (cin.toNat : Int)
  let res := BitVec.ofInt 8 diff
  { res := res
    z := res == 0
    h := decide (((a.toNat % 16 : Nat) : Int) - ((b.toNat % 16 : Nat) : Int) - (cin.toNat : Int) < 0)
    c := decide (diff < 0) }

/-- An 8-bit ALU operation `alu[y] A,x` on the state: A and F afterwards (42_alu8.md R150 to R173). -/
def State.alu (s : State) (op : AluOp) (x : Byte) : State :=
  match op with
  | .add => let r := add8 s.a x false; (s.setReg .a r.res).setFlags r.z false r.h r.c
  | .adc => let r := add8 s.a x s.flagC; (s.setReg .a r.res).setFlags r.z false r.h r.c
  | .sub => let r := sub8 s.a x false; (s.setReg .a r.res).setFlags r.z true r.h r.c
  | .sbc => let r := sub8 s.a x s.flagC; (s.setReg .a r.res).setFlags r.z true r.h r.c
  | .and => let v := s.a &&& x; (s.setReg .a v).setFlags (v == 0) false true false
  | .xor => let v := s.a ^^^ x; (s.setReg .a v).setFlags (v == 0) false false false
  | .or => let v := s.a ||| x; (s.setReg .a v).setFlags (v == 0) false false false
  | .cp => let r := sub8 s.a x false; s.setFlags r.z true r.h r.c

/-- The flags of INC of a byte `v`: Z, N and H written, C kept (42_alu8.md R174). -/
def State.incFlags (s : State) (v : Byte) : State :=
  s.setFlags (v + 1 == 0) false (decide (v.toNat % 16 = 0xF)) s.flagC

/-- The flags of DEC of a byte `v`: Z, N and H written, C kept (42_alu8.md R176). -/
def State.decFlags (s : State) (v : Byte) : State :=
  s.setFlags (v - 1 == 0) true (decide (v.toNat % 16 = 0)) s.flagC

/-- DAA's carry after the instruction (42_alu8.md R178). -/
def daaCarry (a : Byte) (n c : Bool) : Bool := c || (!n && decide (a.toNat > 0x99))

/-- DAA's unbounded corrected value (42_alu8.md R178). -/
def daaValue (a : Byte) (n h c : Bool) : Int :=
  if n then
    (a.toNat : Int) - (if c then 0x60 else 0) - (if h then 0x06 else 0)
  else
    (a.toNat : Int) + (if c ∨ a.toNat > 0x99 then 0x60 else 0) + (if h ∨ a.toNat % 16 > 0x09 then 0x06 else 0)

/-- `DAA` on the state (42_alu8.md R178): N unchanged, H cleared. -/
def State.daa (s : State) : State :=
  let v := BitVec.ofInt 8 (daaValue s.a s.flagN s.flagH s.flagC)
  (s.setReg .a v).setFlags (v == 0) s.flagN false (daaCarry s.a s.flagN s.flagC)

/-- A result word with its half-carry and carry flags. -/
structure WordResult where
  res : Word
  h : Bool
  c : Bool
  deriving DecidableEq, Repr

/-- The sum of ADD HL,rr: H the carry out of bit 11, C the carry out of bit 15 (43_alu16.md R190). -/
def add16 (x y : Word) : WordResult :=
  { res := x + y
    h := decide (x.toNat % 0x1000 + y.toNat % 0x1000 > 0x0FFF)
    c := decide (x.toNat + y.toNat > 0xFFFF) }

/-- `AddSPe(sp, e)`: a signed offset, flags from the unsigned addition of the low bytes (43_alu16.md R194). -/
def addSpE (sp : Word) (e : Byte) : WordResult :=
  { res := sp + e.signExtend 16
    h := decide (sp.toNat % 16 + e.toNat % 16 > 0x0F)
    c := decide (sp.toNat % 256 + e.toNat > 0xFF) }

/-- The result byte of `Rot(k, v, cin)` (44_rotate_shift_bit.md R226). -/
def rotResult (k : RotOp) (v : Byte) (cin : Bool) : Byte :=
  match k with
  | .rlc => v.extractLsb' 0 7 ++ BitVec.ofBool (v.getLsbD 7)
  | .rrc => BitVec.ofBool (v.getLsbD 0) ++ v.extractLsb' 1 7
  | .rl => v.extractLsb' 0 7 ++ BitVec.ofBool cin
  | .rr => BitVec.ofBool cin ++ v.extractLsb' 1 7
  | .sla => v.extractLsb' 0 7 ++ 0#1
  | .sra => BitVec.ofBool (v.getLsbD 7) ++ v.extractLsb' 1 7
  | .swap => v.extractLsb' 0 4 ++ v.extractLsb' 4 4
  | .srl => 0#1 ++ v.extractLsb' 1 7

/-- The carry of `Rot(k, v, cin)`: the bit shifted out; 0 for SWAP (44_rotate_shift_bit.md R226). -/
def rotCarry (k : RotOp) (v : Byte) : Bool :=
  match k with
  | .rlc | .rl | .sla => v.getLsbD 7
  | .rrc | .rr | .sra | .srl => v.getLsbD 0
  | .swap => false

/-- The operation of an accumulator rotate (30_encoding.md R99). -/
def accRotOp : AccRotOp → RotOp
  | .rlca => .rlc | .rrca => .rrc | .rla => .rl | .rra => .rr

/-- `Cond(c)` (45_control.md R245). -/
def State.holds (s : State) : Cond → Bool
  | .nz => !s.flagZ
  | .z => s.flagZ
  | .nc => !s.flagC
  | .c => s.flagC

end Sys2Proof.Machine
end

