-- ==== Sys2Proof/Machine/Operands.lean ====
section
/-! DEFINITION. The operand forms of 30_encoding.md R100: the addresses that are computed from a register or an immediate,
the byte at HL, the relative target, the bit mask; and the fetch of an instruction's bytes (60_exceptions.md R301). -/

namespace Sys2Proof.Machine

/-- The high-page address of an LDH form: 0xFF00 plus an unsigned byte (R100). -/
def highPage (offset : Byte) : Word := 0xFF00 + offset.setWidth 16

/-- The byte at the address in HL, the operand of code 6 (R94). -/
def State.atHl (s : State) : Byte := s.memRead s.hl

/-- Write the byte at the address in HL (R94). -/
def State.setAtHl (s : State) (v : Byte) : State := s.memWrite s.hl v

/-- A relative target: the signed offset added to the address of the next instruction (R100, 45_control.md R243). -/
def relative (next : Word) (e : Byte) : Word := next + e.signExtend 16

/-- The mask `1 << b` of BIT, RES and SET (R100). -/
def bitMask (b : Code3) : Byte := 1#8 <<< b.toNat

/-- The target `8 * y` of RST (R100). -/
def rstTarget (y : Code3) : Word := BitVec.ofNat 16 (8 * y.toNat)

/-- The instruction at PC. Its bytes are read through the bus at PC, PC + 1 and PC + 2 modulo 2^16; a byte past the
instruction's last one is ignored, and reading it changes nothing (20_memory.md R61; log entry 13). -/
def State.fetchInstr (s : State) : Instr :=
  decodeBytes (s.memRead s.pc) (s.memRead (s.pc + 1)) (s.memRead (s.pc + 2))

end Sys2Proof.Machine
end

