-- ==== Sys2Proof/Machine/Alu16.lean ====
section
/-! DEFINITION. 16-bit arithmetic (43_alu16.md R190 to R194). -/

namespace Sys2Proof.Machine

/-- `ADD HL,rr`: Z unchanged (R190). -/
def addHlPair (p : Pair) (s : State) : Result :=
  let r := add16 s.hl (s.pair p)
  (((s.fetched 1).setPair .hl r.res).setFlags s.flagZ false r.h r.c).done (Params.cost .pairArith)

/-- `INC rr` (R191). -/
def incPair (p : Pair) (s : State) : Result :=
  ((s.fetched 1).setPair p (s.pair p + 1)).done (Params.cost .pairArith)

/-- `DEC rr` (R192). -/
def decPair (p : Pair) (s : State) : Result :=
  ((s.fetched 1).setPair p (s.pair p - 1)).done (Params.cost .pairArith)

/-- `ADD SP,e` (R193). -/
def addSpImm (e : Byte) (s : State) : Result :=
  let r := addSpE s.sp e
  (((s.fetched 2).setSp r.res).setFlags false false r.h r.c).done (Params.cost .addSp)

/-! ### The instructions -/

/-- `INC BC` (R191). -/
def execIncBc (s : State) : Result := incPair .bc s
/-- `ADD HL,BC` (R190). -/
def execAddHlBc (s : State) : Result := addHlPair .bc s
/-- `DEC BC` (R192). -/
def execDecBc (s : State) : Result := decPair .bc s
/-- `INC DE` (R191). -/
def execIncDe (s : State) : Result := incPair .de s
/-- `ADD HL,DE` (R190). -/
def execAddHlDe (s : State) : Result := addHlPair .de s
/-- `DEC DE` (R192). -/
def execDecDe (s : State) : Result := decPair .de s
/-- `INC HL` (R191). -/
def execIncHl (s : State) : Result := incPair .hl s
/-- `ADD HL,HL` (R190). -/
def execAddHlHl (s : State) : Result := addHlPair .hl s
/-- `DEC HL` (R192). -/
def execDecHl (s : State) : Result := decPair .hl s
/-- `INC SP` (R191). -/
def execIncSp (s : State) : Result := incPair .sp s
/-- `ADD HL,SP` (R190). -/
def execAddHlSp (s : State) : Result := addHlPair .sp s
/-- `DEC SP` (R192). -/
def execDecSp (s : State) : Result := decPair .sp s
/-- `ADD SP,e` (R193). -/
def execAddSpOff (e : Byte) (s : State) : Result := addSpImm e s

end Sys2Proof.Machine
end

