-- ==== Sys2Proof/Machine/Alu8.lean ====
section
/-! DEFINITION. 8-bit arithmetic and logic (42_alu8.md R150 to R181). -/

namespace Sys2Proof.Machine

/-- An ALU operation with a register operand (R150, R153, R156, R159, R162, R165, R168, R171). -/
def aluReg (op : AluOp) (r : Reg) (s : State) : Result :=
  ((s.fetched 1).alu op (s.reg r)).done (Params.cost .aluReg)

/-- An ALU operation with the byte at HL (R151, R154, R157, R160, R163, R166, R169, R172). -/
def aluAtHl (op : AluOp) (s : State) : Result :=
  ((s.fetched 1).alu op s.atHl).done (Params.cost .aluByte)

/-- An ALU operation with an immediate (R152, R155, R158, R161, R164, R167, R170, R173). -/
def aluImm (op : AluOp) (n : Byte) (s : State) : Result :=
  ((s.fetched 2).alu op n).done (Params.cost .aluByte)

/-- `INC r` (R174). -/
def incReg (r : Reg) (s : State) : Result :=
  (((s.fetched 1).setReg r (s.reg r + 1)).incFlags (s.reg r)).done (Params.cost .incDecReg)

/-- `INC (HL)` (R175). -/
def incMem (s : State) : Result :=
  (((s.fetched 1).setAtHl (s.atHl + 1)).incFlags s.atHl).done (Params.cost .incDecMem)

/-- `DEC r` (R176). -/
def decReg (r : Reg) (s : State) : Result :=
  (((s.fetched 1).setReg r (s.reg r - 1)).decFlags (s.reg r)).done (Params.cost .incDecReg)

/-- `DEC (HL)` (R177). -/
def decMem (s : State) : Result :=
  (((s.fetched 1).setAtHl (s.atHl - 1)).decFlags s.atHl).done (Params.cost .incDecMem)

/-- `DAA` (R178). -/
def decimalAdjust (s : State) : Result :=
  (s.fetched 1).daa.done (Params.cost .accumulator)

/-- `CPL` (R179). -/
def complementA (s : State) : Result :=
  (((s.fetched 1).setReg .a (s.a ^^^ 0xFF)).setFlags s.flagZ true true s.flagC).done (Params.cost .accumulator)

/-- `SCF` (R180). -/
def setCarry (s : State) : Result :=
  ((s.fetched 1).setFlags s.flagZ false false true).done (Params.cost .accumulator)

/-- `CCF` (R181). -/
def complementCarry (s : State) : Result :=
  ((s.fetched 1).setFlags s.flagZ false false (!s.flagC)).done (Params.cost .accumulator)

/-! ### The instructions -/

/-- `INC B` (R174). -/
def execIncB (s : State) : Result := incReg .b s
/-- `DEC B` (R176). -/
def execDecB (s : State) : Result := decReg .b s
/-- `INC C` (R174). -/
def execIncC (s : State) : Result := incReg .c s
/-- `DEC C` (R176). -/
def execDecC (s : State) : Result := decReg .c s
/-- `INC D` (R174). -/
def execIncD (s : State) : Result := incReg .d s
/-- `DEC D` (R176). -/
def execDecD (s : State) : Result := decReg .d s
/-- `INC E` (R174). -/
def execIncE (s : State) : Result := incReg .e s
/-- `DEC E` (R176). -/
def execDecE (s : State) : Result := decReg .e s
/-- `INC H` (R174). -/
def execIncH (s : State) : Result := incReg .h s
/-- `DEC H` (R176). -/
def execDecH (s : State) : Result := decReg .h s
/-- `DAA` (R178). -/
def execDaa (s : State) : Result := decimalAdjust s
/-- `INC L` (R174). -/
def execIncL (s : State) : Result := incReg .l s
/-- `DEC L` (R176). -/
def execDecL (s : State) : Result := decReg .l s
/-- `CPL` (R179). -/
def execCpl (s : State) : Result := complementA s
/-- `INC (HL)` (R175). -/
def execIncAtHl (s : State) : Result := incMem s
/-- `DEC (HL)` (R177). -/
def execDecAtHl (s : State) : Result := decMem s
/-- `SCF` (R180). -/
def execScf (s : State) : Result := setCarry s
/-- `INC A` (R174). -/
def execIncA (s : State) : Result := incReg .a s
/-- `DEC A` (R176). -/
def execDecA (s : State) : Result := decReg .a s
/-- `CCF` (R181). -/
def execCcf (s : State) : Result := complementCarry s
/-- `ADD A,B` (R150). -/
def execAddAB (s : State) : Result := aluReg .add .b s
/-- `ADD A,C` (R150). -/
def execAddAC (s : State) : Result := aluReg .add .c s
/-- `ADD A,D` (R150). -/
def execAddAD (s : State) : Result := aluReg .add .d s
/-- `ADD A,E` (R150). -/
def execAddAE (s : State) : Result := aluReg .add .e s
/-- `ADD A,H` (R150). -/
def execAddAH (s : State) : Result := aluReg .add .h s
/-- `ADD A,L` (R150). -/
def execAddAL (s : State) : Result := aluReg .add .l s
/-- `ADD A,(HL)` (R151). -/
def execAddAAtHl (s : State) : Result := aluAtHl .add s
/-- `ADD A,A` (R150). -/
def execAddAA (s : State) : Result := aluReg .add .a s
/-- `ADC A,B` (R153). -/
def execAdcAB (s : State) : Result := aluReg .adc .b s
/-- `ADC A,C` (R153). -/
def execAdcAC (s : State) : Result := aluReg .adc .c s
/-- `ADC A,D` (R153). -/
def execAdcAD (s : State) : Result := aluReg .adc .d s
/-- `ADC A,E` (R153). -/
def execAdcAE (s : State) : Result := aluReg .adc .e s
/-- `ADC A,H` (R153). -/
def execAdcAH (s : State) : Result := aluReg .adc .h s
/-- `ADC A,L` (R153). -/
def execAdcAL (s : State) : Result := aluReg .adc .l s
/-- `ADC A,(HL)` (R154). -/
def execAdcAAtHl (s : State) : Result := aluAtHl .adc s
/-- `ADC A,A` (R153). -/
def execAdcAA (s : State) : Result := aluReg .adc .a s
/-- `SUB A,B` (R156). -/
def execSubAB (s : State) : Result := aluReg .sub .b s
/-- `SUB A,C` (R156). -/
def execSubAC (s : State) : Result := aluReg .sub .c s
/-- `SUB A,D` (R156). -/
def execSubAD (s : State) : Result := aluReg .sub .d s
/-- `SUB A,E` (R156). -/
def execSubAE (s : State) : Result := aluReg .sub .e s
/-- `SUB A,H` (R156). -/
def execSubAH (s : State) : Result := aluReg .sub .h s
/-- `SUB A,L` (R156). -/
def execSubAL (s : State) : Result := aluReg .sub .l s
/-- `SUB A,(HL)` (R157). -/
def execSubAAtHl (s : State) : Result := aluAtHl .sub s
/-- `SUB A,A` (R156). -/
def execSubAA (s : State) : Result := aluReg .sub .a s
/-- `SBC A,B` (R159). -/
def execSbcAB (s : State) : Result := aluReg .sbc .b s
/-- `SBC A,C` (R159). -/
def execSbcAC (s : State) : Result := aluReg .sbc .c s
/-- `SBC A,D` (R159). -/
def execSbcAD (s : State) : Result := aluReg .sbc .d s
/-- `SBC A,E` (R159). -/
def execSbcAE (s : State) : Result := aluReg .sbc .e s
/-- `SBC A,H` (R159). -/
def execSbcAH (s : State) : Result := aluReg .sbc .h s
/-- `SBC A,L` (R159). -/
def execSbcAL (s : State) : Result := aluReg .sbc .l s
/-- `SBC A,(HL)` (R160). -/
def execSbcAAtHl (s : State) : Result := aluAtHl .sbc s
/-- `SBC A,A` (R159). -/
def execSbcAA (s : State) : Result := aluReg .sbc .a s
/-- `AND A,B` (R162). -/
def execAndAB (s : State) : Result := aluReg .and .b s
/-- `AND A,C` (R162). -/
def execAndAC (s : State) : Result := aluReg .and .c s
/-- `AND A,D` (R162). -/
def execAndAD (s : State) : Result := aluReg .and .d s
/-- `AND A,E` (R162). -/
def execAndAE (s : State) : Result := aluReg .and .e s
/-- `AND A,H` (R162). -/
def execAndAH (s : State) : Result := aluReg .and .h s
/-- `AND A,L` (R162). -/
def execAndAL (s : State) : Result := aluReg .and .l s
/-- `AND A,(HL)` (R163). -/
def execAndAAtHl (s : State) : Result := aluAtHl .and s
/-- `AND A,A` (R162). -/
def execAndAA (s : State) : Result := aluReg .and .a s
/-- `XOR A,B` (R165). -/
def execXorAB (s : State) : Result := aluReg .xor .b s
/-- `XOR A,C` (R165). -/
def execXorAC (s : State) : Result := aluReg .xor .c s
/-- `XOR A,D` (R165). -/
def execXorAD (s : State) : Result := aluReg .xor .d s
/-- `XOR A,E` (R165). -/
def execXorAE (s : State) : Result := aluReg .xor .e s
/-- `XOR A,H` (R165). -/
def execXorAH (s : State) : Result := aluReg .xor .h s
/-- `XOR A,L` (R165). -/
def execXorAL (s : State) : Result := aluReg .xor .l s
/-- `XOR A,(HL)` (R166). -/
def execXorAAtHl (s : State) : Result := aluAtHl .xor s
/-- `XOR A,A` (R165). -/
def execXorAA (s : State) : Result := aluReg .xor .a s
/-- `OR A,B` (R168). -/
def execOrAB (s : State) : Result := aluReg .or .b s
/-- `OR A,C` (R168). -/
def execOrAC (s : State) : Result := aluReg .or .c s
/-- `OR A,D` (R168). -/
def execOrAD (s : State) : Result := aluReg .or .d s
/-- `OR A,E` (R168). -/
def execOrAE (s : State) : Result := aluReg .or .e s
/-- `OR A,H` (R168). -/
def execOrAH (s : State) : Result := aluReg .or .h s
/-- `OR A,L` (R168). -/
def execOrAL (s : State) : Result := aluReg .or .l s
/-- `OR A,(HL)` (R169). -/
def execOrAAtHl (s : State) : Result := aluAtHl .or s
/-- `OR A,A` (R168). -/
def execOrAA (s : State) : Result := aluReg .or .a s
/-- `CP A,B` (R171). -/
def execCpAB (s : State) : Result := aluReg .cp .b s
/-- `CP A,C` (R171). -/
def execCpAC (s : State) : Result := aluReg .cp .c s
/-- `CP A,D` (R171). -/
def execCpAD (s : State) : Result := aluReg .cp .d s
/-- `CP A,E` (R171). -/
def execCpAE (s : State) : Result := aluReg .cp .e s
/-- `CP A,H` (R171). -/
def execCpAH (s : State) : Result := aluReg .cp .h s
/-- `CP A,L` (R171). -/
def execCpAL (s : State) : Result := aluReg .cp .l s
/-- `CP A,(HL)` (R172). -/
def execCpAAtHl (s : State) : Result := aluAtHl .cp s
/-- `CP A,A` (R171). -/
def execCpAA (s : State) : Result := aluReg .cp .a s
/-- `ADD A,n` (R152). -/
def execAddAImm (n : Byte) (s : State) : Result := aluImm .add n s
/-- `ADC A,n` (R155). -/
def execAdcAImm (n : Byte) (s : State) : Result := aluImm .adc n s
/-- `SUB A,n` (R158). -/
def execSubAImm (n : Byte) (s : State) : Result := aluImm .sub n s
/-- `SBC A,n` (R161). -/
def execSbcAImm (n : Byte) (s : State) : Result := aluImm .sbc n s
/-- `AND A,n` (R164). -/
def execAndAImm (n : Byte) (s : State) : Result := aluImm .and n s
/-- `XOR A,n` (R167). -/
def execXorAImm (n : Byte) (s : State) : Result := aluImm .xor n s
/-- `OR A,n` (R170). -/
def execOrAImm (n : Byte) (s : State) : Result := aluImm .or n s
/-- `CP A,n` (R173). -/
def execCpAImm (n : Byte) (s : State) : Result := aluImm .cp n s

end Sys2Proof.Machine
end

