-- ==== Sys2Proof/Machine/Bits.lean ====
section
/-! DEFINITION. The bit instructions BIT, RES and SET (44_rotate_shift_bit.md R220 to R225). -/

namespace Sys2Proof.Machine

/-- The flags of BIT b on a byte: Z when the bit is clear, N cleared, H set, C kept (R220). -/
def State.bitFlags (s : State) (b : Code3) (v : Byte) : State :=
  s.setFlags (!v.getLsbD b.toNat) false true s.flagC

/-- `BIT b,r` (R220). -/
def bitReg (b : Code3) (r : Reg) (s : State) : Result :=
  ((s.fetched 2).bitFlags b (s.reg r)).done (Params.cost .bitsReg)

/-- `BIT b,(HL)` (R221). -/
def bitMem (b : Code3) (s : State) : Result :=
  ((s.fetched 2).bitFlags b s.atHl).done (Params.cost .bitMem)

/-- `RES b,r` (R222). -/
def resReg (b : Code3) (r : Reg) (s : State) : Result :=
  ((s.fetched 2).setReg r (s.reg r &&& ~~~bitMask b)).done (Params.cost .bitsReg)

/-- `RES b,(HL)` (R223). -/
def resMem (b : Code3) (s : State) : Result :=
  ((s.fetched 2).setAtHl (s.atHl &&& ~~~bitMask b)).done (Params.cost .resSetMem)

/-- `SET b,r` (R224). -/
def setBitReg (b : Code3) (r : Reg) (s : State) : Result :=
  ((s.fetched 2).setReg r (s.reg r ||| bitMask b)).done (Params.cost .bitsReg)

/-- `SET b,(HL)` (R225). -/
def setBitMem (b : Code3) (s : State) : Result :=
  ((s.fetched 2).setAtHl (s.atHl ||| bitMask b)).done (Params.cost .resSetMem)

/-! ### The instructions -/

/-- `BIT 0,B` (R220). -/
def execBit0B (s : State) : Result := bitReg .k0 .b s
/-- `BIT 0,C` (R220). -/
def execBit0C (s : State) : Result := bitReg .k0 .c s
/-- `BIT 0,D` (R220). -/
def execBit0D (s : State) : Result := bitReg .k0 .d s
/-- `BIT 0,E` (R220). -/
def execBit0E (s : State) : Result := bitReg .k0 .e s
/-- `BIT 0,H` (R220). -/
def execBit0H (s : State) : Result := bitReg .k0 .h s
/-- `BIT 0,L` (R220). -/
def execBit0L (s : State) : Result := bitReg .k0 .l s
/-- `BIT 0,(HL)` (R221). -/
def execBit0AtHl (s : State) : Result := bitMem .k0 s
/-- `BIT 0,A` (R220). -/
def execBit0A (s : State) : Result := bitReg .k0 .a s
/-- `BIT 1,B` (R220). -/
def execBit1B (s : State) : Result := bitReg .k1 .b s
/-- `BIT 1,C` (R220). -/
def execBit1C (s : State) : Result := bitReg .k1 .c s
/-- `BIT 1,D` (R220). -/
def execBit1D (s : State) : Result := bitReg .k1 .d s
/-- `BIT 1,E` (R220). -/
def execBit1E (s : State) : Result := bitReg .k1 .e s
/-- `BIT 1,H` (R220). -/
def execBit1H (s : State) : Result := bitReg .k1 .h s
/-- `BIT 1,L` (R220). -/
def execBit1L (s : State) : Result := bitReg .k1 .l s
/-- `BIT 1,(HL)` (R221). -/
def execBit1AtHl (s : State) : Result := bitMem .k1 s
/-- `BIT 1,A` (R220). -/
def execBit1A (s : State) : Result := bitReg .k1 .a s
/-- `BIT 2,B` (R220). -/
def execBit2B (s : State) : Result := bitReg .k2 .b s
/-- `BIT 2,C` (R220). -/
def execBit2C (s : State) : Result := bitReg .k2 .c s
/-- `BIT 2,D` (R220). -/
def execBit2D (s : State) : Result := bitReg .k2 .d s
/-- `BIT 2,E` (R220). -/
def execBit2E (s : State) : Result := bitReg .k2 .e s
/-- `BIT 2,H` (R220). -/
def execBit2H (s : State) : Result := bitReg .k2 .h s
/-- `BIT 2,L` (R220). -/
def execBit2L (s : State) : Result := bitReg .k2 .l s
/-- `BIT 2,(HL)` (R221). -/
def execBit2AtHl (s : State) : Result := bitMem .k2 s
/-- `BIT 2,A` (R220). -/
def execBit2A (s : State) : Result := bitReg .k2 .a s
/-- `BIT 3,B` (R220). -/
def execBit3B (s : State) : Result := bitReg .k3 .b s
/-- `BIT 3,C` (R220). -/
def execBit3C (s : State) : Result := bitReg .k3 .c s
/-- `BIT 3,D` (R220). -/
def execBit3D (s : State) : Result := bitReg .k3 .d s
/-- `BIT 3,E` (R220). -/
def execBit3E (s : State) : Result := bitReg .k3 .e s
/-- `BIT 3,H` (R220). -/
def execBit3H (s : State) : Result := bitReg .k3 .h s
/-- `BIT 3,L` (R220). -/
def execBit3L (s : State) : Result := bitReg .k3 .l s
/-- `BIT 3,(HL)` (R221). -/
def execBit3AtHl (s : State) : Result := bitMem .k3 s
/-- `BIT 3,A` (R220). -/
def execBit3A (s : State) : Result := bitReg .k3 .a s
/-- `BIT 4,B` (R220). -/
def execBit4B (s : State) : Result := bitReg .k4 .b s
/-- `BIT 4,C` (R220). -/
def execBit4C (s : State) : Result := bitReg .k4 .c s
/-- `BIT 4,D` (R220). -/
def execBit4D (s : State) : Result := bitReg .k4 .d s
/-- `BIT 4,E` (R220). -/
def execBit4E (s : State) : Result := bitReg .k4 .e s
/-- `BIT 4,H` (R220). -/
def execBit4H (s : State) : Result := bitReg .k4 .h s
/-- `BIT 4,L` (R220). -/
def execBit4L (s : State) : Result := bitReg .k4 .l s
/-- `BIT 4,(HL)` (R221). -/
def execBit4AtHl (s : State) : Result := bitMem .k4 s
/-- `BIT 4,A` (R220). -/
def execBit4A (s : State) : Result := bitReg .k4 .a s
/-- `BIT 5,B` (R220). -/
def execBit5B (s : State) : Result := bitReg .k5 .b s
/-- `BIT 5,C` (R220). -/
def execBit5C (s : State) : Result := bitReg .k5 .c s
/-- `BIT 5,D` (R220). -/
def execBit5D (s : State) : Result := bitReg .k5 .d s
/-- `BIT 5,E` (R220). -/
def execBit5E (s : State) : Result := bitReg .k5 .e s
/-- `BIT 5,H` (R220). -/
def execBit5H (s : State) : Result := bitReg .k5 .h s
/-- `BIT 5,L` (R220). -/
def execBit5L (s : State) : Result := bitReg .k5 .l s
/-- `BIT 5,(HL)` (R221). -/
def execBit5AtHl (s : State) : Result := bitMem .k5 s
/-- `BIT 5,A` (R220). -/
def execBit5A (s : State) : Result := bitReg .k5 .a s
/-- `BIT 6,B` (R220). -/
def execBit6B (s : State) : Result := bitReg .k6 .b s
/-- `BIT 6,C` (R220). -/
def execBit6C (s : State) : Result := bitReg .k6 .c s
/-- `BIT 6,D` (R220). -/
def execBit6D (s : State) : Result := bitReg .k6 .d s
/-- `BIT 6,E` (R220). -/
def execBit6E (s : State) : Result := bitReg .k6 .e s
/-- `BIT 6,H` (R220). -/
def execBit6H (s : State) : Result := bitReg .k6 .h s
/-- `BIT 6,L` (R220). -/
def execBit6L (s : State) : Result := bitReg .k6 .l s
/-- `BIT 6,(HL)` (R221). -/
def execBit6AtHl (s : State) : Result := bitMem .k6 s
/-- `BIT 6,A` (R220). -/
def execBit6A (s : State) : Result := bitReg .k6 .a s
/-- `BIT 7,B` (R220). -/
def execBit7B (s : State) : Result := bitReg .k7 .b s
/-- `BIT 7,C` (R220). -/
def execBit7C (s : State) : Result := bitReg .k7 .c s
/-- `BIT 7,D` (R220). -/
def execBit7D (s : State) : Result := bitReg .k7 .d s
/-- `BIT 7,E` (R220). -/
def execBit7E (s : State) : Result := bitReg .k7 .e s
/-- `BIT 7,H` (R220). -/
def execBit7H (s : State) : Result := bitReg .k7 .h s
/-- `BIT 7,L` (R220). -/
def execBit7L (s : State) : Result := bitReg .k7 .l s
/-- `BIT 7,(HL)` (R221). -/
def execBit7AtHl (s : State) : Result := bitMem .k7 s
/-- `BIT 7,A` (R220). -/
def execBit7A (s : State) : Result := bitReg .k7 .a s
/-- `RES 0,B` (R222). -/
def execRes0B (s : State) : Result := resReg .k0 .b s
/-- `RES 0,C` (R222). -/
def execRes0C (s : State) : Result := resReg .k0 .c s
/-- `RES 0,D` (R222). -/
def execRes0D (s : State) : Result := resReg .k0 .d s
/-- `RES 0,E` (R222). -/
def execRes0E (s : State) : Result := resReg .k0 .e s
/-- `RES 0,H` (R222). -/
def execRes0H (s : State) : Result := resReg .k0 .h s
/-- `RES 0,L` (R222). -/
def execRes0L (s : State) : Result := resReg .k0 .l s
/-- `RES 0,(HL)` (R223). -/
def execRes0AtHl (s : State) : Result := resMem .k0 s
/-- `RES 0,A` (R222). -/
def execRes0A (s : State) : Result := resReg .k0 .a s
/-- `RES 1,B` (R222). -/
def execRes1B (s : State) : Result := resReg .k1 .b s
/-- `RES 1,C` (R222). -/
def execRes1C (s : State) : Result := resReg .k1 .c s
/-- `RES 1,D` (R222). -/
def execRes1D (s : State) : Result := resReg .k1 .d s
/-- `RES 1,E` (R222). -/
def execRes1E (s : State) : Result := resReg .k1 .e s
/-- `RES 1,H` (R222). -/
def execRes1H (s : State) : Result := resReg .k1 .h s
/-- `RES 1,L` (R222). -/
def execRes1L (s : State) : Result := resReg .k1 .l s
/-- `RES 1,(HL)` (R223). -/
def execRes1AtHl (s : State) : Result := resMem .k1 s
/-- `RES 1,A` (R222). -/
def execRes1A (s : State) : Result := resReg .k1 .a s
/-- `RES 2,B` (R222). -/
def execRes2B (s : State) : Result := resReg .k2 .b s
/-- `RES 2,C` (R222). -/
def execRes2C (s : State) : Result := resReg .k2 .c s
/-- `RES 2,D` (R222). -/
def execRes2D (s : State) : Result := resReg .k2 .d s
/-- `RES 2,E` (R222). -/
def execRes2E (s : State) : Result := resReg .k2 .e s
/-- `RES 2,H` (R222). -/
def execRes2H (s : State) : Result := resReg .k2 .h s
/-- `RES 2,L` (R222). -/
def execRes2L (s : State) : Result := resReg .k2 .l s
/-- `RES 2,(HL)` (R223). -/
def execRes2AtHl (s : State) : Result := resMem .k2 s
/-- `RES 2,A` (R222). -/
def execRes2A (s : State) : Result := resReg .k2 .a s
/-- `RES 3,B` (R222). -/
def execRes3B (s : State) : Result := resReg .k3 .b s
/-- `RES 3,C` (R222). -/
def execRes3C (s : State) : Result := resReg .k3 .c s
/-- `RES 3,D` (R222). -/
def execRes3D (s : State) : Result := resReg .k3 .d s
/-- `RES 3,E` (R222). -/
def execRes3E (s : State) : Result := resReg .k3 .e s
/-- `RES 3,H` (R222). -/
def execRes3H (s : State) : Result := resReg .k3 .h s
/-- `RES 3,L` (R222). -/
def execRes3L (s : State) : Result := resReg .k3 .l s
/-- `RES 3,(HL)` (R223). -/
def execRes3AtHl (s : State) : Result := resMem .k3 s
/-- `RES 3,A` (R222). -/
def execRes3A (s : State) : Result := resReg .k3 .a s
/-- `RES 4,B` (R222). -/
def execRes4B (s : State) : Result := resReg .k4 .b s
/-- `RES 4,C` (R222). -/
def execRes4C (s : State) : Result := resReg .k4 .c s
/-- `RES 4,D` (R222). -/
def execRes4D (s : State) : Result := resReg .k4 .d s
/-- `RES 4,E` (R222). -/
def execRes4E (s : State) : Result := resReg .k4 .e s
/-- `RES 4,H` (R222). -/
def execRes4H (s : State) : Result := resReg .k4 .h s
/-- `RES 4,L` (R222). -/
def execRes4L (s : State) : Result := resReg .k4 .l s
/-- `RES 4,(HL)` (R223). -/
def execRes4AtHl (s : State) : Result := resMem .k4 s
/-- `RES 4,A` (R222). -/
def execRes4A (s : State) : Result := resReg .k4 .a s
/-- `RES 5,B` (R222). -/
def execRes5B (s : State) : Result := resReg .k5 .b s
/-- `RES 5,C` (R222). -/
def execRes5C (s : State) : Result := resReg .k5 .c s
/-- `RES 5,D` (R222). -/
def execRes5D (s : State) : Result := resReg .k5 .d s
/-- `RES 5,E` (R222). -/
def execRes5E (s : State) : Result := resReg .k5 .e s
/-- `RES 5,H` (R222). -/
def execRes5H (s : State) : Result := resReg .k5 .h s
/-- `RES 5,L` (R222). -/
def execRes5L (s : State) : Result := resReg .k5 .l s
/-- `RES 5,(HL)` (R223). -/
def execRes5AtHl (s : State) : Result := resMem .k5 s
/-- `RES 5,A` (R222). -/
def execRes5A (s : State) : Result := resReg .k5 .a s
/-- `RES 6,B` (R222). -/
def execRes6B (s : State) : Result := resReg .k6 .b s
/-- `RES 6,C` (R222). -/
def execRes6C (s : State) : Result := resReg .k6 .c s
/-- `RES 6,D` (R222). -/
def execRes6D (s : State) : Result := resReg .k6 .d s
/-- `RES 6,E` (R222). -/
def execRes6E (s : State) : Result := resReg .k6 .e s
/-- `RES 6,H` (R222). -/
def execRes6H (s : State) : Result := resReg .k6 .h s
/-- `RES 6,L` (R222). -/
def execRes6L (s : State) : Result := resReg .k6 .l s
/-- `RES 6,(HL)` (R223). -/
def execRes6AtHl (s : State) : Result := resMem .k6 s
/-- `RES 6,A` (R222). -/
def execRes6A (s : State) : Result := resReg .k6 .a s
/-- `RES 7,B` (R222). -/
def execRes7B (s : State) : Result := resReg .k7 .b s
/-- `RES 7,C` (R222). -/
def execRes7C (s : State) : Result := resReg .k7 .c s
/-- `RES 7,D` (R222). -/
def execRes7D (s : State) : Result := resReg .k7 .d s
/-- `RES 7,E` (R222). -/
def execRes7E (s : State) : Result := resReg .k7 .e s
/-- `RES 7,H` (R222). -/
def execRes7H (s : State) : Result := resReg .k7 .h s
/-- `RES 7,L` (R222). -/
def execRes7L (s : State) : Result := resReg .k7 .l s
/-- `RES 7,(HL)` (R223). -/
def execRes7AtHl (s : State) : Result := resMem .k7 s
/-- `RES 7,A` (R222). -/
def execRes7A (s : State) : Result := resReg .k7 .a s
/-- `SET 0,B` (R224). -/
def execSet0B (s : State) : Result := setBitReg .k0 .b s
/-- `SET 0,C` (R224). -/
def execSet0C (s : State) : Result := setBitReg .k0 .c s
/-- `SET 0,D` (R224). -/
def execSet0D (s : State) : Result := setBitReg .k0 .d s
/-- `SET 0,E` (R224). -/
def execSet0E (s : State) : Result := setBitReg .k0 .e s
/-- `SET 0,H` (R224). -/
def execSet0H (s : State) : Result := setBitReg .k0 .h s
/-- `SET 0,L` (R224). -/
def execSet0L (s : State) : Result := setBitReg .k0 .l s
/-- `SET 0,(HL)` (R225). -/
def execSet0AtHl (s : State) : Result := setBitMem .k0 s
/-- `SET 0,A` (R224). -/
def execSet0A (s : State) : Result := setBitReg .k0 .a s
/-- `SET 1,B` (R224). -/
def execSet1B (s : State) : Result := setBitReg .k1 .b s
/-- `SET 1,C` (R224). -/
def execSet1C (s : State) : Result := setBitReg .k1 .c s
/-- `SET 1,D` (R224). -/
def execSet1D (s : State) : Result := setBitReg .k1 .d s
/-- `SET 1,E` (R224). -/
def execSet1E (s : State) : Result := setBitReg .k1 .e s
/-- `SET 1,H` (R224). -/
def execSet1H (s : State) : Result := setBitReg .k1 .h s
/-- `SET 1,L` (R224). -/
def execSet1L (s : State) : Result := setBitReg .k1 .l s
/-- `SET 1,(HL)` (R225). -/
def execSet1AtHl (s : State) : Result := setBitMem .k1 s
/-- `SET 1,A` (R224). -/
def execSet1A (s : State) : Result := setBitReg .k1 .a s
/-- `SET 2,B` (R224). -/
def execSet2B (s : State) : Result := setBitReg .k2 .b s
/-- `SET 2,C` (R224). -/
def execSet2C (s : State) : Result := setBitReg .k2 .c s
/-- `SET 2,D` (R224). -/
def execSet2D (s : State) : Result := setBitReg .k2 .d s
/-- `SET 2,E` (R224). -/
def execSet2E (s : State) : Result := setBitReg .k2 .e s
/-- `SET 2,H` (R224). -/
def execSet2H (s : State) : Result := setBitReg .k2 .h s
/-- `SET 2,L` (R224). -/
def execSet2L (s : State) : Result := setBitReg .k2 .l s
/-- `SET 2,(HL)` (R225). -/
def execSet2AtHl (s : State) : Result := setBitMem .k2 s
/-- `SET 2,A` (R224). -/
def execSet2A (s : State) : Result := setBitReg .k2 .a s
/-- `SET 3,B` (R224). -/
def execSet3B (s : State) : Result := setBitReg .k3 .b s
/-- `SET 3,C` (R224). -/
def execSet3C (s : State) : Result := setBitReg .k3 .c s
/-- `SET 3,D` (R224). -/
def execSet3D (s : State) : Result := setBitReg .k3 .d s
/-- `SET 3,E` (R224). -/
def execSet3E (s : State) : Result := setBitReg .k3 .e s
/-- `SET 3,H` (R224). -/
def execSet3H (s : State) : Result := setBitReg .k3 .h s
/-- `SET 3,L` (R224). -/
def execSet3L (s : State) : Result := setBitReg .k3 .l s
/-- `SET 3,(HL)` (R225). -/
def execSet3AtHl (s : State) : Result := setBitMem .k3 s
/-- `SET 3,A` (R224). -/
def execSet3A (s : State) : Result := setBitReg .k3 .a s
/-- `SET 4,B` (R224). -/
def execSet4B (s : State) : Result := setBitReg .k4 .b s
/-- `SET 4,C` (R224). -/
def execSet4C (s : State) : Result := setBitReg .k4 .c s
/-- `SET 4,D` (R224). -/
def execSet4D (s : State) : Result := setBitReg .k4 .d s
/-- `SET 4,E` (R224). -/
def execSet4E (s : State) : Result := setBitReg .k4 .e s
/-- `SET 4,H` (R224). -/
def execSet4H (s : State) : Result := setBitReg .k4 .h s
/-- `SET 4,L` (R224). -/
def execSet4L (s : State) : Result := setBitReg .k4 .l s
/-- `SET 4,(HL)` (R225). -/
def execSet4AtHl (s : State) : Result := setBitMem .k4 s
/-- `SET 4,A` (R224). -/
def execSet4A (s : State) : Result := setBitReg .k4 .a s
/-- `SET 5,B` (R224). -/
def execSet5B (s : State) : Result := setBitReg .k5 .b s
/-- `SET 5,C` (R224). -/
def execSet5C (s : State) : Result := setBitReg .k5 .c s
/-- `SET 5,D` (R224). -/
def execSet5D (s : State) : Result := setBitReg .k5 .d s
/-- `SET 5,E` (R224). -/
def execSet5E (s : State) : Result := setBitReg .k5 .e s
/-- `SET 5,H` (R224). -/
def execSet5H (s : State) : Result := setBitReg .k5 .h s
/-- `SET 5,L` (R224). -/
def execSet5L (s : State) : Result := setBitReg .k5 .l s
/-- `SET 5,(HL)` (R225). -/
def execSet5AtHl (s : State) : Result := setBitMem .k5 s
/-- `SET 5,A` (R224). -/
def execSet5A (s : State) : Result := setBitReg .k5 .a s
/-- `SET 6,B` (R224). -/
def execSet6B (s : State) : Result := setBitReg .k6 .b s
/-- `SET 6,C` (R224). -/
def execSet6C (s : State) : Result := setBitReg .k6 .c s
/-- `SET 6,D` (R224). -/
def execSet6D (s : State) : Result := setBitReg .k6 .d s
/-- `SET 6,E` (R224). -/
def execSet6E (s : State) : Result := setBitReg .k6 .e s
/-- `SET 6,H` (R224). -/
def execSet6H (s : State) : Result := setBitReg .k6 .h s
/-- `SET 6,L` (R224). -/
def execSet6L (s : State) : Result := setBitReg .k6 .l s
/-- `SET 6,(HL)` (R225). -/
def execSet6AtHl (s : State) : Result := setBitMem .k6 s
/-- `SET 6,A` (R224). -/
def execSet6A (s : State) : Result := setBitReg .k6 .a s
/-- `SET 7,B` (R224). -/
def execSet7B (s : State) : Result := setBitReg .k7 .b s
/-- `SET 7,C` (R224). -/
def execSet7C (s : State) : Result := setBitReg .k7 .c s
/-- `SET 7,D` (R224). -/
def execSet7D (s : State) : Result := setBitReg .k7 .d s
/-- `SET 7,E` (R224). -/
def execSet7E (s : State) : Result := setBitReg .k7 .e s
/-- `SET 7,H` (R224). -/
def execSet7H (s : State) : Result := setBitReg .k7 .h s
/-- `SET 7,L` (R224). -/
def execSet7L (s : State) : Result := setBitReg .k7 .l s
/-- `SET 7,(HL)` (R225). -/
def execSet7AtHl (s : State) : Result := setBitMem .k7 s
/-- `SET 7,A` (R224). -/
def execSet7A (s : State) : Result := setBitReg .k7 .a s

end Sys2Proof.Machine
end

