-- ==== Sys2Proof/Machine/Control.lean ====
section
/-! DEFINITION. Control transfer (45_control.md R240 to R251). PC is past the whole instruction, immediates included, when
an operation starts; that value is pushed and offsets are added to it. -/

namespace Sys2Proof.Machine

/-- `JP nn`, and a taken `JP cc,nn`, at its cost (R240, R241). -/
def jumpTo (cycles : Nat) (nn : Word) (s : State) : Result :=
  ((s.fetched 3).setPc nn).done cycles

/-- `JP cc,nn` (R241). -/
def jumpIf (cc : Cond) (nn : Word) (s : State) : Result :=
  if s.holds cc then jumpTo (Params.cost .jpIf true) nn s else (s.fetched 3).done (Params.cost .jpIf false)

/-- `JP HL`: no memory access (R242). -/
def jumpHl (s : State) : Result :=
  ((s.fetched 1).setPc s.hl).done (Params.cost .jpHl)

/-- `JR e`, and a taken `JR cc,e`, at its cost (R243, R244). -/
def jumpRel (cycles : Nat) (e : Byte) (s : State) : Result :=
  let s := s.fetched 2
  (s.setPc (relative s.pc e)).done cycles

/-- `JR cc,e` (R244). -/
def jumpRelIf (cc : Cond) (e : Byte) (s : State) : Result :=
  if s.holds cc then jumpRel (Params.cost .jrIf true) e s else (s.fetched 2).done (Params.cost .jrIf false)

/-- `CALL nn`, and a taken `CALL cc,nn`, at its cost (R246, R247). -/
def callTo (cycles : Nat) (nn : Word) (s : State) : Result :=
  let s := s.fetched 3
  ((s.push16 s.pc).setPc nn).done cycles

/-- `CALL cc,nn` (R247). -/
def callIf (cc : Cond) (nn : Word) (s : State) : Result :=
  if s.holds cc then callTo (Params.cost .callIf true) nn s else (s.fetched 3).done (Params.cost .callIf false)

/-- `RET`, and a taken `RET cc`, at its cost (R248, R249). -/
def returnPopping (cycles : Nat) (s : State) : Result :=
  ((s.fetched 1).dropTop.setPc s.stackTop).done cycles

/-- `RET cc` (R249). -/
def returnIf (cc : Cond) (s : State) : Result :=
  if s.holds cc then returnPopping (Params.cost .retIf true) s else (s.fetched 1).done (Params.cost .retIf false)

/-- `RETI` (R250). -/
def returnEnabling (s : State) : Result :=
  (s.fetched 1).returnFromInterrupt.done (Params.cost .reti)

/-- `RST t` (R251). -/
def restart (y : Code3) (s : State) : Result :=
  let s := s.fetched 1
  ((s.push16 s.pc).setPc (rstTarget y)).done (Params.cost .rst)

/-! ### The instructions -/

/-- `JR e` (R243). -/
def execJrOff (e : Byte) (s : State) : Result := jumpRel (Params.cost .jr) e s
/-- `JR NZ,e` (R244). -/
def execJrNzOff (e : Byte) (s : State) : Result := jumpRelIf .nz e s
/-- `JR Z,e` (R244). -/
def execJrZOff (e : Byte) (s : State) : Result := jumpRelIf .z e s
/-- `JR NC,e` (R244). -/
def execJrNcOff (e : Byte) (s : State) : Result := jumpRelIf .nc e s
/-- `JR C,e` (R244). -/
def execJrCOff (e : Byte) (s : State) : Result := jumpRelIf .c e s
/-- `RET NZ` (R249). -/
def execRetNz (s : State) : Result := returnIf .nz s
/-- `JP NZ,nn` (R241). -/
def execJpNzWord (nn : Word) (s : State) : Result := jumpIf .nz nn s
/-- `JP nn` (R240). -/
def execJpWord (nn : Word) (s : State) : Result := jumpTo (Params.cost .jp) nn s
/-- `CALL NZ,nn` (R247). -/
def execCallNzWord (nn : Word) (s : State) : Result := callIf .nz nn s
/-- `RST 00H` (R251). -/
def execRst00 (s : State) : Result := restart .k0 s
/-- `RET Z` (R249). -/
def execRetZ (s : State) : Result := returnIf .z s
/-- `RET` (R248). -/
def execRet (s : State) : Result := returnPopping (Params.cost .ret) s
/-- `JP Z,nn` (R241). -/
def execJpZWord (nn : Word) (s : State) : Result := jumpIf .z nn s
/-- `CALL Z,nn` (R247). -/
def execCallZWord (nn : Word) (s : State) : Result := callIf .z nn s
/-- `CALL nn` (R246). -/
def execCallWord (nn : Word) (s : State) : Result := callTo (Params.cost .call) nn s
/-- `RST 08H` (R251). -/
def execRst08 (s : State) : Result := restart .k1 s
/-- `RET NC` (R249). -/
def execRetNc (s : State) : Result := returnIf .nc s
/-- `JP NC,nn` (R241). -/
def execJpNcWord (nn : Word) (s : State) : Result := jumpIf .nc nn s
/-- `CALL NC,nn` (R247). -/
def execCallNcWord (nn : Word) (s : State) : Result := callIf .nc nn s
/-- `RST 10H` (R251). -/
def execRst10 (s : State) : Result := restart .k2 s
/-- `RET C` (R249). -/
def execRetC (s : State) : Result := returnIf .c s
/-- `RETI` (R250). -/
def execReti (s : State) : Result := returnEnabling s
/-- `JP C,nn` (R241). -/
def execJpCWord (nn : Word) (s : State) : Result := jumpIf .c nn s
/-- `CALL C,nn` (R247). -/
def execCallCWord (nn : Word) (s : State) : Result := callIf .c nn s
/-- `RST 18H` (R251). -/
def execRst18 (s : State) : Result := restart .k3 s
/-- `RST 20H` (R251). -/
def execRst20 (s : State) : Result := restart .k4 s
/-- `JP HL` (R242). -/
def execJpHl (s : State) : Result := jumpHl s
/-- `RST 28H` (R251). -/
def execRst28 (s : State) : Result := restart .k5 s
/-- `RST 30H` (R251). -/
def execRst30 (s : State) : Result := restart .k6 s
/-- `RST 38H` (R251). -/
def execRst38 (s : State) : Result := restart .k7 s

end Sys2Proof.Machine
end

