-- ==== Sys2Proof/Machine/Loads16.lean ====
section
/-! DEFINITION. The 16-bit loads and the stack instructions (41_loads16_stack.md R140 to R145). -/

namespace Sys2Proof.Machine

/-- `LD rr,nn` (R140). -/
def ldPairWord (p : Pair) (nn : Word) (s : State) : Result :=
  ((s.fetched 3).setPair p nn).done (Params.cost .ldPairWord)

/-- `LD (nn),SP` (R141). -/
def ldAtWordSp (nn : Word) (s : State) : Result :=
  ((s.fetched 3).memWrite16 nn s.sp).done (Params.cost .ldAtWordSp)

/-- `LD SP,HL` (R142). -/
def ldSpFromHl (s : State) : Result :=
  ((s.fetched 1).setSp s.hl).done (Params.cost .ldSpHl)

/-- `PUSH qq` (R143). -/
def pushPair (p : StackPair) (s : State) : Result :=
  ((s.fetched 1).push16 (s.stackPair p)).done (Params.cost .push)

/-- `POP qq` (R144). -/
def popPair (p : StackPair) (s : State) : Result :=
  ((s.fetched 1).dropTop.setStackPair p s.stackTop).done (Params.cost .pop)

/-- `LD HL,SP+e` (R145). -/
def ldHlFromSp (e : Byte) (s : State) : Result :=
  let r := addSpE s.sp e
  (((s.fetched 2).setPair .hl r.res).setFlags false false r.h r.c).done (Params.cost .ldHlSp)

/-! ### The instructions -/

/-- `LD BC,nn` (R140). -/
def execLdBcWord (nn : Word) (s : State) : Result := ldPairWord .bc nn s
/-- `LD (nn),SP` (R141). -/
def execLdAtWordSp (nn : Word) (s : State) : Result := ldAtWordSp nn s
/-- `LD DE,nn` (R140). -/
def execLdDeWord (nn : Word) (s : State) : Result := ldPairWord .de nn s
/-- `LD HL,nn` (R140). -/
def execLdHlWord (nn : Word) (s : State) : Result := ldPairWord .hl nn s
/-- `LD SP,nn` (R140). -/
def execLdSpWord (nn : Word) (s : State) : Result := ldPairWord .sp nn s
/-- `POP BC` (R144). -/
def execPopBc (s : State) : Result := popPair .bc s
/-- `PUSH BC` (R143). -/
def execPushBc (s : State) : Result := pushPair .bc s
/-- `POP DE` (R144). -/
def execPopDe (s : State) : Result := popPair .de s
/-- `PUSH DE` (R143). -/
def execPushDe (s : State) : Result := pushPair .de s
/-- `POP HL` (R144). -/
def execPopHl (s : State) : Result := popPair .hl s
/-- `PUSH HL` (R143). -/
def execPushHl (s : State) : Result := pushPair .hl s
/-- `POP AF` (R144). -/
def execPopAf (s : State) : Result := popPair .af s
/-- `PUSH AF` (R143). -/
def execPushAf (s : State) : Result := pushPair .af s
/-- `LD HL,SP+e` (R145). -/
def execLdHlSpOff (e : Byte) (s : State) : Result := ldHlFromSp e s
/-- `LD SP,HL` (R142). -/
def execLdSpHl (s : State) : Result := ldSpFromHl s

end Sys2Proof.Machine
end

