-- ==== Sys2Proof/Machine/Loads8.lean ====
section
/-! DEFINITION. The 8-bit loads (40_loads8.md R120 to R138). No load writes a flag. -/

namespace Sys2Proof.Machine

/-- `LD r,r'` (R120). -/
def ldReg (dst src : Reg) (s : State) : Result :=
  ((s.fetched 1).setReg dst (s.reg src)).done (Params.cost .ldReg)

/-- `LD r,n` (R121). -/
def ldRegImm (r : Reg) (n : Byte) (s : State) : Result :=
  ((s.fetched 2).setReg r n).done (Params.cost .ldRegImm)

/-- `LD r,(HL)`: the address is formed before H or L is written (R122). -/
def ldRegAtHl (r : Reg) (s : State) : Result :=
  ((s.fetched 1).setReg r s.atHl).done (Params.cost .ldAtHl)

/-- `LD (HL),r` (R123). -/
def ldAtHlReg (r : Reg) (s : State) : Result :=
  ((s.fetched 1).setAtHl (s.reg r)).done (Params.cost .ldAtHl)

/-- `LD (HL),n` (R124). -/
def ldAtHlByte (n : Byte) (s : State) : Result :=
  ((s.fetched 2).setAtHl n).done (Params.cost .ldAtHlImm)

/-- A load of A from the byte at `addr`, by an instruction of `len` bytes (R125, R126, R129, R131, R133). -/
def ldAFrom (len cycles : Nat) (addr : Word) (s : State) : Result :=
  ((s.fetched len).setReg .a (s.memRead addr)).done cycles

/-- A store of A to the byte at `addr`, by an instruction of `len` bytes (R127, R128, R130, R132, R134). -/
def ldToA (len cycles : Nat) (addr : Word) (s : State) : Result :=
  ((s.fetched len).memWrite addr s.a).done cycles

/-- `LD A,(HL+)` and `LD A,(HL-)`: load A, then add `delta` to HL (R135, R137). -/
def ldAStep (delta : Word) (s : State) : Result :=
  (((s.fetched 1).setReg .a s.atHl).setPair .hl (s.hl + delta)).done (Params.cost .ldStepping)

/-- `LD (HL+),A` and `LD (HL-),A`: store A at the old HL, then add `delta` to HL (R136, R138). -/
def ldStepA (delta : Word) (s : State) : Result :=
  (((s.fetched 1).setAtHl s.a).setPair .hl (s.hl + delta)).done (Params.cost .ldStepping)

/-! ### The instructions -/

/-- `LD (BC),A` (R127). -/
def execLdAtBcA (s : State) : Result := ldToA 1 (Params.cost .ldAtPair) (s.pair .bc) s
/-- `LD B,n` (R121). -/
def execLdBImm (n : Byte) (s : State) : Result := ldRegImm .b n s
/-- `LD A,(BC)` (R125). -/
def execLdAAtBc (s : State) : Result := ldAFrom 1 (Params.cost .ldAtPair) (s.pair .bc) s
/-- `LD C,n` (R121). -/
def execLdCImm (n : Byte) (s : State) : Result := ldRegImm .c n s
/-- `LD (DE),A` (R128). -/
def execLdAtDeA (s : State) : Result := ldToA 1 (Params.cost .ldAtPair) (s.pair .de) s
/-- `LD D,n` (R121). -/
def execLdDImm (n : Byte) (s : State) : Result := ldRegImm .d n s
/-- `LD A,(DE)` (R126). -/
def execLdAAtDe (s : State) : Result := ldAFrom 1 (Params.cost .ldAtPair) (s.pair .de) s
/-- `LD E,n` (R121). -/
def execLdEImm (n : Byte) (s : State) : Result := ldRegImm .e n s
/-- `LD (HL+),A` (R138). -/
def execLdAtHlIncA (s : State) : Result := ldStepA 1 s
/-- `LD H,n` (R121). -/
def execLdHImm (n : Byte) (s : State) : Result := ldRegImm .h n s
/-- `LD A,(HL+)` (R137). -/
def execLdAAtHlInc (s : State) : Result := ldAStep 1 s
/-- `LD L,n` (R121). -/
def execLdLImm (n : Byte) (s : State) : Result := ldRegImm .l n s
/-- `LD (HL-),A` (R136). -/
def execLdAtHlDecA (s : State) : Result := ldStepA (-1) s
/-- `LD (HL),n` (R124). -/
def execLdAtHlImm (n : Byte) (s : State) : Result := ldAtHlByte n s
/-- `LD A,(HL-)` (R135). -/
def execLdAAtHlDec (s : State) : Result := ldAStep (-1) s
/-- `LD A,n` (R121). -/
def execLdAImm (n : Byte) (s : State) : Result := ldRegImm .a n s
/-- `LD B,B` (R120). -/
def execLdBB (s : State) : Result := ldReg .b .b s
/-- `LD B,C` (R120). -/
def execLdBC (s : State) : Result := ldReg .b .c s
/-- `LD B,D` (R120). -/
def execLdBD (s : State) : Result := ldReg .b .d s
/-- `LD B,E` (R120). -/
def execLdBE (s : State) : Result := ldReg .b .e s
/-- `LD B,H` (R120). -/
def execLdBH (s : State) : Result := ldReg .b .h s
/-- `LD B,L` (R120). -/
def execLdBL (s : State) : Result := ldReg .b .l s
/-- `LD B,(HL)` (R122). -/
def execLdBAtHl (s : State) : Result := ldRegAtHl .b s
/-- `LD B,A` (R120). -/
def execLdBA (s : State) : Result := ldReg .b .a s
/-- `LD C,B` (R120). -/
def execLdCB (s : State) : Result := ldReg .c .b s
/-- `LD C,C` (R120). -/
def execLdCC (s : State) : Result := ldReg .c .c s
/-- `LD C,D` (R120). -/
def execLdCD (s : State) : Result := ldReg .c .d s
/-- `LD C,E` (R120). -/
def execLdCE (s : State) : Result := ldReg .c .e s
/-- `LD C,H` (R120). -/
def execLdCH (s : State) : Result := ldReg .c .h s
/-- `LD C,L` (R120). -/
def execLdCL (s : State) : Result := ldReg .c .l s
/-- `LD C,(HL)` (R122). -/
def execLdCAtHl (s : State) : Result := ldRegAtHl .c s
/-- `LD C,A` (R120). -/
def execLdCA (s : State) : Result := ldReg .c .a s
/-- `LD D,B` (R120). -/
def execLdDB (s : State) : Result := ldReg .d .b s
/-- `LD D,C` (R120). -/
def execLdDC (s : State) : Result := ldReg .d .c s
/-- `LD D,D` (R120). -/
def execLdDD (s : State) : Result := ldReg .d .d s
/-- `LD D,E` (R120). -/
def execLdDE (s : State) : Result := ldReg .d .e s
/-- `LD D,H` (R120). -/
def execLdDH (s : State) : Result := ldReg .d .h s
/-- `LD D,L` (R120). -/
def execLdDL (s : State) : Result := ldReg .d .l s
/-- `LD D,(HL)` (R122). -/
def execLdDAtHl (s : State) : Result := ldRegAtHl .d s
/-- `LD D,A` (R120). -/
def execLdDA (s : State) : Result := ldReg .d .a s
/-- `LD E,B` (R120). -/
def execLdEB (s : State) : Result := ldReg .e .b s
/-- `LD E,C` (R120). -/
def execLdEC (s : State) : Result := ldReg .e .c s
/-- `LD E,D` (R120). -/
def execLdED (s : State) : Result := ldReg .e .d s
/-- `LD E,E` (R120). -/
def execLdEE (s : State) : Result := ldReg .e .e s
/-- `LD E,H` (R120). -/
def execLdEH (s : State) : Result := ldReg .e .h s
/-- `LD E,L` (R120). -/
def execLdEL (s : State) : Result := ldReg .e .l s
/-- `LD E,(HL)` (R122). -/
def execLdEAtHl (s : State) : Result := ldRegAtHl .e s
/-- `LD E,A` (R120). -/
def execLdEA (s : State) : Result := ldReg .e .a s
/-- `LD H,B` (R120). -/
def execLdHB (s : State) : Result := ldReg .h .b s
/-- `LD H,C` (R120). -/
def execLdHC (s : State) : Result := ldReg .h .c s
/-- `LD H,D` (R120). -/
def execLdHD (s : State) : Result := ldReg .h .d s
/-- `LD H,E` (R120). -/
def execLdHE (s : State) : Result := ldReg .h .e s
/-- `LD H,H` (R120). -/
def execLdHH (s : State) : Result := ldReg .h .h s
/-- `LD H,L` (R120). -/
def execLdHL (s : State) : Result := ldReg .h .l s
/-- `LD H,(HL)` (R122). -/
def execLdHAtHl (s : State) : Result := ldRegAtHl .h s
/-- `LD H,A` (R120). -/
def execLdHA (s : State) : Result := ldReg .h .a s
/-- `LD L,B` (R120). -/
def execLdLB (s : State) : Result := ldReg .l .b s
/-- `LD L,C` (R120). -/
def execLdLC (s : State) : Result := ldReg .l .c s
/-- `LD L,D` (R120). -/
def execLdLD (s : State) : Result := ldReg .l .d s
/-- `LD L,E` (R120). -/
def execLdLE (s : State) : Result := ldReg .l .e s
/-- `LD L,H` (R120). -/
def execLdLH (s : State) : Result := ldReg .l .h s
/-- `LD L,L` (R120). -/
def execLdLL (s : State) : Result := ldReg .l .l s
/-- `LD L,(HL)` (R122). -/
def execLdLAtHl (s : State) : Result := ldRegAtHl .l s
/-- `LD L,A` (R120). -/
def execLdLA (s : State) : Result := ldReg .l .a s
/-- `LD (HL),B` (R123). -/
def execLdAtHlB (s : State) : Result := ldAtHlReg .b s
/-- `LD (HL),C` (R123). -/
def execLdAtHlC (s : State) : Result := ldAtHlReg .c s
/-- `LD (HL),D` (R123). -/
def execLdAtHlD (s : State) : Result := ldAtHlReg .d s
/-- `LD (HL),E` (R123). -/
def execLdAtHlE (s : State) : Result := ldAtHlReg .e s
/-- `LD (HL),H` (R123). -/
def execLdAtHlH (s : State) : Result := ldAtHlReg .h s
/-- `LD (HL),L` (R123). -/
def execLdAtHlL (s : State) : Result := ldAtHlReg .l s
/-- `LD (HL),A` (R123). -/
def execLdAtHlA (s : State) : Result := ldAtHlReg .a s
/-- `LD A,B` (R120). -/
def execLdAB (s : State) : Result := ldReg .a .b s
/-- `LD A,C` (R120). -/
def execLdAC (s : State) : Result := ldReg .a .c s
/-- `LD A,D` (R120). -/
def execLdAD (s : State) : Result := ldReg .a .d s
/-- `LD A,E` (R120). -/
def execLdAE (s : State) : Result := ldReg .a .e s
/-- `LD A,H` (R120). -/
def execLdAH (s : State) : Result := ldReg .a .h s
/-- `LD A,L` (R120). -/
def execLdAL (s : State) : Result := ldReg .a .l s
/-- `LD A,(HL)` (R122). -/
def execLdAAtHl (s : State) : Result := ldRegAtHl .a s
/-- `LD A,A` (R120). -/
def execLdAA (s : State) : Result := ldReg .a .a s
/-- `LDH (n),A` (R134). -/
def execLdhAtImmA (n : Byte) (s : State) : Result := ldToA 2 (Params.cost .ldhAtImm) (highPage n) s
/-- `LDH (C),A` (R132). -/
def execLdhAtCA (s : State) : Result := ldToA 1 (Params.cost .ldhAtC) (highPage s.c) s
/-- `LD (nn),A` (R130). -/
def execLdAtWordA (nn : Word) (s : State) : Result := ldToA 3 (Params.cost .ldAtWord) nn s
/-- `LDH A,(n)` (R133). -/
def execLdhAAtImm (n : Byte) (s : State) : Result := ldAFrom 2 (Params.cost .ldhAtImm) (highPage n) s
/-- `LDH A,(C)` (R131). -/
def execLdhAAtC (s : State) : Result := ldAFrom 1 (Params.cost .ldhAtC) (highPage s.c) s
/-- `LD A,(nn)` (R129). -/
def execLdAAtWord (nn : Word) (s : State) : Result := ldAFrom 3 (Params.cost .ldAtWord) nn s

end Sys2Proof.Machine
end

