-- ==== Sys2Proof/Machine/Rotate.lean ====
section
/-! DEFINITION. Rotates and shifts (44_rotate_shift_bit.md R200 to R219, R226). -/

namespace Sys2Proof.Machine

/-- An accumulator rotate: Z forced to 0 (R200 to R203). -/
def rotAcc (k : AccRotOp) (s : State) : Result :=
  let op := accRotOp k
  (((s.fetched 1).setReg .a (rotResult op s.a s.flagC)).setFlags false false false (rotCarry op s.a)).done (Params.cost .rotAcc)

/-- The flags of an extended rotate or shift with result `res` of operand `v`: Z evaluated, N and H cleared, C the bit
shifted out (R204 to R219). -/
def State.rotFlags (s : State) (k : RotOp) (v res : Byte) : State :=
  s.setFlags (res == 0) false false (rotCarry k v)

/-- An extended rotate or shift of a register (R204, R206, R208, R210, R212, R214, R216, R218). -/
def rotReg (k : RotOp) (r : Reg) (s : State) : Result :=
  let res := rotResult k (s.reg r) s.flagC
  (((s.fetched 2).setReg r res).rotFlags k (s.reg r) res).done (Params.cost .rotReg)

/-- An extended rotate or shift of the byte at HL (R205, R207, R209, R211, R213, R215, R217, R219). -/
def rotMem (k : RotOp) (s : State) : Result :=
  let res := rotResult k s.atHl s.flagC
  (((s.fetched 2).setAtHl res).rotFlags k s.atHl res).done (Params.cost .rotMem)

/-! ### The instructions -/

/-- `RLCA` (R200). -/
def execRlca (s : State) : Result := rotAcc .rlca s
/-- `RRCA` (R201). -/
def execRrca (s : State) : Result := rotAcc .rrca s
/-- `RLA` (R202). -/
def execRla (s : State) : Result := rotAcc .rla s
/-- `RRA` (R203). -/
def execRra (s : State) : Result := rotAcc .rra s
/-- `RLC B` (R204). -/
def execRlcB (s : State) : Result := rotReg .rlc .b s
/-- `RLC C` (R204). -/
def execRlcC (s : State) : Result := rotReg .rlc .c s
/-- `RLC D` (R204). -/
def execRlcD (s : State) : Result := rotReg .rlc .d s
/-- `RLC E` (R204). -/
def execRlcE (s : State) : Result := rotReg .rlc .e s
/-- `RLC H` (R204). -/
def execRlcH (s : State) : Result := rotReg .rlc .h s
/-- `RLC L` (R204). -/
def execRlcL (s : State) : Result := rotReg .rlc .l s
/-- `RLC (HL)` (R205). -/
def execRlcAtHl (s : State) : Result := rotMem .rlc s
/-- `RLC A` (R204). -/
def execRlcA (s : State) : Result := rotReg .rlc .a s
/-- `RRC B` (R206). -/
def execRrcB (s : State) : Result := rotReg .rrc .b s
/-- `RRC C` (R206). -/
def execRrcC (s : State) : Result := rotReg .rrc .c s
/-- `RRC D` (R206). -/
def execRrcD (s : State) : Result := rotReg .rrc .d s
/-- `RRC E` (R206). -/
def execRrcE (s : State) : Result := rotReg .rrc .e s
/-- `RRC H` (R206). -/
def execRrcH (s : State) : Result := rotReg .rrc .h s
/-- `RRC L` (R206). -/
def execRrcL (s : State) : Result := rotReg .rrc .l s
/-- `RRC (HL)` (R207). -/
def execRrcAtHl (s : State) : Result := rotMem .rrc s
/-- `RRC A` (R206). -/
def execRrcA (s : State) : Result := rotReg .rrc .a s
/-- `RL B` (R208). -/
def execRlB (s : State) : Result := rotReg .rl .b s
/-- `RL C` (R208). -/
def execRlC (s : State) : Result := rotReg .rl .c s
/-- `RL D` (R208). -/
def execRlD (s : State) : Result := rotReg .rl .d s
/-- `RL E` (R208). -/
def execRlE (s : State) : Result := rotReg .rl .e s
/-- `RL H` (R208). -/
def execRlH (s : State) : Result := rotReg .rl .h s
/-- `RL L` (R208). -/
def execRlL (s : State) : Result := rotReg .rl .l s
/-- `RL (HL)` (R209). -/
def execRlAtHl (s : State) : Result := rotMem .rl s
/-- `RL A` (R208). -/
def execRlA (s : State) : Result := rotReg .rl .a s
/-- `RR B` (R210). -/
def execRrB (s : State) : Result := rotReg .rr .b s
/-- `RR C` (R210). -/
def execRrC (s : State) : Result := rotReg .rr .c s
/-- `RR D` (R210). -/
def execRrD (s : State) : Result := rotReg .rr .d s
/-- `RR E` (R210). -/
def execRrE (s : State) : Result := rotReg .rr .e s
/-- `RR H` (R210). -/
def execRrH (s : State) : Result := rotReg .rr .h s
/-- `RR L` (R210). -/
def execRrL (s : State) : Result := rotReg .rr .l s
/-- `RR (HL)` (R211). -/
def execRrAtHl (s : State) : Result := rotMem .rr s
/-- `RR A` (R210). -/
def execRrA (s : State) : Result := rotReg .rr .a s
/-- `SLA B` (R212). -/
def execSlaB (s : State) : Result := rotReg .sla .b s
/-- `SLA C` (R212). -/
def execSlaC (s : State) : Result := rotReg .sla .c s
/-- `SLA D` (R212). -/
def execSlaD (s : State) : Result := rotReg .sla .d s
/-- `SLA E` (R212). -/
def execSlaE (s : State) : Result := rotReg .sla .e s
/-- `SLA H` (R212). -/
def execSlaH (s : State) : Result := rotReg .sla .h s
/-- `SLA L` (R212). -/
def execSlaL (s : State) : Result := rotReg .sla .l s
/-- `SLA (HL)` (R213). -/
def execSlaAtHl (s : State) : Result := rotMem .sla s
/-- `SLA A` (R212). -/
def execSlaA (s : State) : Result := rotReg .sla .a s
/-- `SRA B` (R214). -/
def execSraB (s : State) : Result := rotReg .sra .b s
/-- `SRA C` (R214). -/
def execSraC (s : State) : Result := rotReg .sra .c s
/-- `SRA D` (R214). -/
def execSraD (s : State) : Result := rotReg .sra .d s
/-- `SRA E` (R214). -/
def execSraE (s : State) : Result := rotReg .sra .e s
/-- `SRA H` (R214). -/
def execSraH (s : State) : Result := rotReg .sra .h s
/-- `SRA L` (R214). -/
def execSraL (s : State) : Result := rotReg .sra .l s
/-- `SRA (HL)` (R215). -/
def execSraAtHl (s : State) : Result := rotMem .sra s
/-- `SRA A` (R214). -/
def execSraA (s : State) : Result := rotReg .sra .a s
/-- `SWAP B` (R216). -/
def execSwapB (s : State) : Result := rotReg .swap .b s
/-- `SWAP C` (R216). -/
def execSwapC (s : State) : Result := rotReg .swap .c s
/-- `SWAP D` (R216). -/
def execSwapD (s : State) : Result := rotReg .swap .d s
/-- `SWAP E` (R216). -/
def execSwapE (s : State) : Result := rotReg .swap .e s
/-- `SWAP H` (R216). -/
def execSwapH (s : State) : Result := rotReg .swap .h s
/-- `SWAP L` (R216). -/
def execSwapL (s : State) : Result := rotReg .swap .l s
/-- `SWAP (HL)` (R217). -/
def execSwapAtHl (s : State) : Result := rotMem .swap s
/-- `SWAP A` (R216). -/
def execSwapA (s : State) : Result := rotReg .swap .a s
/-- `SRL B` (R218). -/
def execSrlB (s : State) : Result := rotReg .srl .b s
/-- `SRL C` (R218). -/
def execSrlC (s : State) : Result := rotReg .srl .c s
/-- `SRL D` (R218). -/
def execSrlD (s : State) : Result := rotReg .srl .d s
/-- `SRL E` (R218). -/
def execSrlE (s : State) : Result := rotReg .srl .e s
/-- `SRL H` (R218). -/
def execSrlH (s : State) : Result := rotReg .srl .h s
/-- `SRL L` (R218). -/
def execSrlL (s : State) : Result := rotReg .srl .l s
/-- `SRL (HL)` (R219). -/
def execSrlAtHl (s : State) : Result := rotMem .srl s
/-- `SRL A` (R218). -/
def execSrlA (s : State) : Result := rotReg .srl .a s

end Sys2Proof.Machine
end

