-- ==== Sys2Proof/Machine/System.lean ====
section
/-! DEFINITION. System instructions and the unrecognized opcodes (46_system.md R260 to R266). -/

namespace Sys2Proof.Machine

/-- `NOP` (R260). -/
def noOperation (s : State) : Result := (s.fetched 1).done (Params.cost .nopDiEi)

/-- `HALT`: PC is set back to the HALT's own address, and `halted` is set (R261). -/
def haltCpu (s : State) : Result :=
  let s := s.fetched 1
  ((s.setHalted true).setPc (s.pc - 1)).done Params.haltCycles

/-- `STOP`: by default the fatal fault Stop; under the parameter value `nop2` a two-byte no-operation of 4 cycles
(R262, decision D13, log entry 6). -/
def stopCpu (s : State) : Result :=
  match Params.stopBehaviour with
  | .fault => s.raiseFault (.stop s.pc)
  | .nop2 => (s.fetched 2).done 4

/-- `DI`: at once (R263). -/
def disableInterrupts (s : State) : Result := ((s.fetched 1).setIme false).done (Params.cost .nopDiEi)

/-- `EI`: at once under EI_DELAY = 0, its one value (R264, decision D12). -/
def enableInterrupts (s : State) : Result :=
  match Params.eiDelay with
  | .zero => ((s.fetched 1).setIme true).done (Params.cost .nopDiEi)

/-- An unrecognized opcode, one of the parameter ILLEGAL: the fatal fault IllegalOpcode (R266). -/
def unrecognized (opcode : Byte) (s : State) : Result := s.raiseFault (.illegalOpcode s.pc opcode)

/-! ### The instructions -/

/-- `NOP` (R260). -/
def execNop (s : State) : Result := noOperation s
/-- `STOP` (R262). -/
def execStop (s : State) : Result := stopCpu s
/-- `HALT` (R261). -/
def execHalt (s : State) : Result := haltCpu s
/-- `ILLEGAL_D3` (R266). -/
def execIllegalD3 (s : State) : Result := unrecognized 0xD3 s
/-- `ILLEGAL_DB` (R266). -/
def execIllegalDB (s : State) : Result := unrecognized 0xDB s
/-- `ILLEGAL_DD` (R266). -/
def execIllegalDD (s : State) : Result := unrecognized 0xDD s
/-- `ILLEGAL_E3` (R266). -/
def execIllegalE3 (s : State) : Result := unrecognized 0xE3 s
/-- `ILLEGAL_E4` (R266). -/
def execIllegalE4 (s : State) : Result := unrecognized 0xE4 s
/-- `ILLEGAL_EB` (R266). -/
def execIllegalEB (s : State) : Result := unrecognized 0xEB s
/-- `ILLEGAL_EC` (R266). -/
def execIllegalEC (s : State) : Result := unrecognized 0xEC s
/-- `ILLEGAL_ED` (R266). -/
def execIllegalED (s : State) : Result := unrecognized 0xED s
/-- `DI` (R263). -/
def execDi (s : State) : Result := disableInterrupts s
/-- `ILLEGAL_F4` (R266). -/
def execIllegalF4 (s : State) : Result := unrecognized 0xF4 s
/-- `EI` (R264). -/
def execEi (s : State) : Result := enableInterrupts s
/-- `ILLEGAL_FC` (R266). -/
def execIllegalFC (s : State) : Result := unrecognized 0xFC s
/-- `ILLEGAL_FD` (R266). -/
def execIllegalFD (s : State) : Result := unrecognized 0xFD s

end Sys2Proof.Machine
end

