-- ==== Sys2Proof/Machine/Render.lean ====
section
/-! DEFINITION. The PPU's renderer (60_exceptions.md R359 to R365): tile fetch, background and window rows, sprites, the
composed frame. The window row and the sprite layer are written pixel by pixel (log entry 14). The registers are read at
their cells (20_memory.md R77), tile tables, tile data and OAM through the bus (R359 to R363: `MemRead`). -/

namespace Sys2Proof.Machine

/-! ### Surfaces -/

/-- The cell in column `x` of row `y`; `dflt` outside the surface (log entry 15). -/
def Surface.cell {cell : Type} (surf : Surface cell) (dflt : cell) (x y : Nat) : cell := (surf.getD y []).getD x dflt

/-- One row of 160 cells. -/
def surfaceRow {cell : Type} (f : Nat → cell) : List cell := (List.range Config.screenWidth).map f

/-- A whole surface, from column and row to cell. -/
def surfaceOf {cell : Type} (f : Nat → Nat → cell) : Surface cell :=
  (List.range Config.screenHeight).map fun y => surfaceRow fun x => f x y

/-! ### Tile fetch helpers (R359) -/

/-- `TileAddr(idx)`: unsigned from 0x8000 or signed around 0x9000, by LCDC bit 4. -/
def State.tileAddr (s : State) (idx : Byte) : Word :=
  if (s.cellRead Params.lcdc).getLsbD 4 then 0x8000 + 16 * idx.setWidth 16 else 0x9000 + 16 * idx.signExtend 16

/-- `TilePixel(addr, row, col)`: a colour index, column 0 being bit 7 of the row's two bytes. -/
def State.tilePixel (s : State) (addr : Word) (row col : Nat) : Shade :=
  let lo := s.memRead (addr + BitVec.ofNat 16 (2 * row))
  let hi := s.memRead (addr + BitVec.ofNat 16 (2 * row + 1))
  BitVec.ofBool (hi.getLsbD (7 - col)) ++ BitVec.ofBool (lo.getLsbD (7 - col))

/-- `Shade(pal, ci)`. -/
def shade (pal : Byte) (ci : Shade) : Shade := pal.extractLsb' (2 * ci.toNat) 2

/-! ### Background and window rows (R360, R361) -/

/-- The tile-index table an LCDC bit selects. -/
def State.tileMap (s : State) (bit : Nat) : Word := if (s.cellRead Params.lcdc).getLsbD bit then 0x9C00 else 0x9800

/-- The pixel at column `px`, row `py` of the 256x256 plane that the table `map` describes, through BGP. -/
def State.mapPixel (s : State) (map : Word) (px py : Nat) : Shade :=
  let idx := s.memRead (map + BitVec.ofNat 16 (32 * (py / 8) + px / 8))
  shade (s.cellRead Params.bgp) (s.tilePixel (s.tileAddr idx) (py % 8) (px % 8))

/-- The background pixel of column `x` on line `ly`: scrolled, wrapping at 256 (R360). -/
def State.bgPixel (s : State) (ly x : Nat) : Shade :=
  s.mapPixel (s.tileMap 3) (((s.cellRead Params.scx).toNat + x) % 256) (((s.cellRead Params.scy).toNat + ly) % 256)

/-- Whether the window is drawn on line `ly` (R361). -/
def State.windowOn (s : State) (ly : Nat) : Bool :=
  (s.cellRead Params.lcdc).getLsbD 5 && decide (ly ≥ (s.cellRead Params.wy).toNat)

/-- The window cell of column `x` on line `ly`: window column `i` lies at screen column `WX - 7 + i`, for `i` in 0..159
(R361). -/
def State.winCell (s : State) (ly x : Nat) : Option Shade :=
  let wx := (s.cellRead Params.wx).toNat
  if s.windowOn ly ∧ wx ≤ x + 7 ∧ x + 7 - wx < Config.screenWidth then
    some (s.mapPixel (s.tileMap 6) (x + 7 - wx) (ly - (s.cellRead Params.wy).toNat))
  else none

/-- `RenderLine(ly)` (R360, R361). -/
def State.renderLine (s : State) (ly : Nat) : State :=
  (s.setBgSurface (s.bgSurface.set ly (surfaceRow fun x => s.bgPixel ly x))).setWinSurface
    (s.winSurface.set ly (surfaceRow fun x => s.winCell ly x))

/-! ### Sprites and the frame (R363, R364) -/

/-- `Under(x, y)`: the window pixel where one was drawn, else the background pixel (R363). -/
def State.under (s : State) (x y : Nat) : Shade :=
  match s.winSurface.cell none x y with
  | some v => v
  | none => s.bgSurface.cell 0 x y

/-- Height of every sprite: LCDC bit 2 (R363). -/
def State.spriteHeight (s : State) : Nat := if (s.cellRead Params.lcdc).getLsbD 2 then 16 else 8

/-- The byte `k` of sprite slot `slot` (R363). -/
def State.oamByte (s : State) (slot k : Nat) : Byte := s.memRead (Params.oam + BitVec.ofNat 16 (4 * slot + k))

/-- The tile a sprite's line comes from: in 8x16 mode the index's low bit is forced by the half (R363). -/
def spriteTile (height line : Nat) (t : Byte) : Byte :=
  if height = 16 then (t &&& 0xFE) ||| (if line ≥ 8 then 1 else 0) else t

/-- The colour index that slot `slot` has in row `r`, column `c` of its own rectangle (R363). -/
def State.spriteIndex (s : State) (slot r c : Nat) : Shade :=
  let attr := s.oamByte slot 3
  let height := s.spriteHeight
  let line := if attr.getLsbD 6 then height - 1 - r else r
  let col := if attr.getLsbD 5 then 7 - c else c
  let tile := spriteTile height line (s.oamByte slot 2)
  s.tilePixel (0x8000 + 16 * tile.setWidth 16) (line % 8) col

/-- What slot `slot` draws at `(x, y)`, if anything: the pixel lies in the sprite's rectangle (Y biased by -16, X by -8),
its index is not 0, and the priority bit does not suppress it over a pixel of shade other than 0 (R363). -/
def State.spriteCell (s : State) (slot x y : Nat) : Option Shade :=
  let top := (s.oamByte slot 0).toNat
  let left := (s.oamByte slot 1).toNat
  let attr := s.oamByte slot 3
  if top ≤ y + 16 ∧ y + 16 < top + s.spriteHeight ∧ left ≤ x + 8 ∧ x + 8 < left + 8 then
    let ci := s.spriteIndex slot (y + 16 - top) (x + 8 - left)
    if ci ≠ 0 ∧ ¬ (attr.getLsbD 7 ∧ s.under x y ≠ 0) then
      some (shade (s.cellRead (if attr.getLsbD 4 then Params.obp1 else Params.obp0)) ci)
    else none
  else none

/-- The sprite layer at `(x, y)`: the slots are drawn from 39 down to 0, so the lowest slot that draws there wins (R363). -/
def State.topSprite (s : State) (x y : Nat) : Option Shade :=
  (List.range Config.spriteSlots).findSome? fun slot => s.spriteCell slot x y

/-- `RenderFrame()`: clear the sprite layer, draw the sprites if enabled, compose the frame, emit FrameReady (R364, R365;
log entry 3). -/
def State.renderFrame (s : State) : State :=
  let sprites : Surface (Option Shade) :=
    if (s.cellRead Params.lcdc).getLsbD 1 then surfaceOf fun x y => s.topSprite x y else Surface.filled none
  let s := s.setSprSurface sprites
  let frame := surfaceOf fun x y =>
    match s.sprSurface.cell none x y with
    | some v => v
    | none => s.under x y
  (s.setFrameBuffer frame).setFrames (s.frames + 1)

end Sys2Proof.Machine
end

