-- ==== Sys2Proof/Machine/Ppu.lean ====
section
/-! DEFINITION. The PPU's mode machine (60_exceptions.md R350 to R357). The registers are read and written at their cells
(20_memory.md R77). -/

namespace Sys2Proof.Machine

/-- The mode's number (10_state.md R50). -/
def modeCode : LcdMode → Byte
  | .hblank => 0 | .vblank => 1 | .oamSearch => 2 | .pixelTransfer => 3

/-- `VBlankEntry()` (R353). -/
def State.vblankEntry (s : State) : State :=
  let s := s.request .vblank
  if s.linesRendered ≤ 144 then s.renderFrame else s

/-- The line register after the current line: LY plus 1, or 0 past 153 (R352). -/
def nextLine (ly : Byte) : Byte := if ly.toNat + 1 > 153 then 0 else ly + 1

/-- `LineChange()` (R352). -/
def State.lineChange (s : State) : State :=
  let ly := s.cellRead Params.ly
  let s := s.cellWrite Params.ly (nextLine ly)
  let s := if ly.toNat + 1 > 153 then s.setLinesRendered 0 else s
  if s.cellRead Params.ly = 144 then s.vblankEntry else s

/-- `ModeOf(ly, lc)` (R354). -/
def modeOf (ly : Byte) (lc : Int) : LcdMode :=
  if ly.toNat ≥ 144 then .vblank
  else if 456 - lc < 80 then .oamSearch
  else if 456 - lc < 252 then .pixelTransfer
  else .hblank

/-- Whether STAT enables an interrupt on entering mode `m`: bits 3, 4, 5 for modes 0, 1, 2, none for mode 3 (R355). -/
def modeEnabled (m : LcdMode) (stat : Byte) : Bool :=
  match m with
  | .hblank => stat.getLsbD 3
  | .vblank => stat.getLsbD 4
  | .oamSearch => stat.getLsbD 5
  | .pixelTransfer => false

/-- `ModeChange(m)`: the edge-triggered STAT request, and the row rendered on entering H-blank of a visible line (R355). -/
def State.modeChange (s : State) (m : LcdMode) : State :=
  let s := s.setMode m
  let s := if modeEnabled m (s.cellRead Params.stat) then s.request .lcdStat else s
  let ly := (s.cellRead Params.ly).toNat
  if m = .hblank ∧ ly < 144 ∧ s.linesRendered < 144 then
    (s.renderLine ly).setLinesRendered (s.linesRendered + 1)
  else s

/-- The line-counter part of `PpuAdvance(c)` (R351): the overshoot is carried into the next line. -/
def State.lineAdvance (s : State) (c : Nat) : State :=
  let left := s.lineCounter - (c : Int)
  if left ≤ 0 then (s.setLineCounter (left + 456)).lineChange else s.setLineCounter left

/-- The mode part of `PpuAdvance(c)`: a change of mode, then STAT bits 1:0 (R354 to R356). -/
def State.modeAdvance (s : State) : State :=
  let m := modeOf (s.cellRead Params.ly) s.lineCounter
  let s := if m ≠ s.mode then s.modeChange m else s
  s.cellWrite Params.stat ((s.cellRead Params.stat &&& 0xFC) ||| modeCode s.mode)

/-- Whether a line-compare match requests the interrupt, given STAT bit 2 before this compare: the result of the last one
(10_state.md R48). Level: always. Edge: only when the match becomes true (R357, decision D21; log entry 21). -/
def lineMatchRequests (matched : Bool) : Bool :=
  match Params.lycIrq with
  | .level => true
  | .edge => !matched

/-- The line-compare part of `PpuAdvance(c)`: STAT bit 2, and the request STAT bit 6 enables (R357). -/
def State.lineCompare (s : State) : State :=
  if s.cellRead Params.ly = s.cellRead Params.lyc then
    let requests := lineMatchRequests ((s.cellRead Params.stat).getLsbD 2)
    let s := s.cellWrite Params.stat (s.cellRead Params.stat ||| 0x04)
    if (s.cellRead Params.stat).getLsbD 6 && requests then s.request .lcdStat else s
  else
    s.cellWrite Params.stat (s.cellRead Params.stat &&& 0xFB)

/-- `PpuAdvance(c)` (R350). By default LCDC bit 7 is not consulted; under LCD_ENABLE_GATING its 0 freezes the PPU
(decision D22, log entry 6). -/
def State.ppuAdvance (s : State) (c : Nat) : State :=
  if Params.lcdEnableGating && !(s.cellRead Params.lcdc).getLsbD 7 then s
  else (s.lineAdvance c).modeAdvance.lineCompare

end Sys2Proof.Machine
end

