-- ==== Sys2Proof/Machine/Timer.lean ====
section
/-! DEFINITION. The timer and divider (60_exceptions.md R340 to R343). The registers are read and written at their cells
(20_memory.md R77). -/

namespace Sys2Proof.Machine

/-- The divider half of `TimerAdvance(c)`: the excess over 256 is dropped (R340). -/
def State.dividerAdvance (s : State) (c : Nat) : State :=
  if s.divAcc + c ≥ 256 then
    (s.setDivAcc 0).cellWrite Params.div (s.cellRead Params.div + 1)
  else
    s.setDivAcc (s.divAcc + c)

/-- `TimaStep()`: reload and request at 255, else increment (R342). -/
def State.timaStep (s : State) : State :=
  if s.cellRead Params.tima = 255 then
    (s.cellWrite Params.tima (s.cellRead Params.tma)).request .timer
  else
    s.cellWrite Params.tima (s.cellRead Params.tima + 1)

/-- The timer half of `TimerAdvance(c)`: the overshoot is dropped, the period read from TAC at the reload (R341, R343). -/
def State.countdownAdvance (s : State) (c : Nat) : State :=
  if (s.cellRead Params.tac).getLsbD 2 then
    let left := s.countdown - (c : Int)
    if left ≤ 0 then
      (s.setCountdown (Params.period (s.cellRead Params.tac) : Int)).timaStep
    else
      s.setCountdown left
  else s

/-- `TimerAdvance(c)` (R340, R341). -/
def State.timerAdvance (s : State) (c : Nat) : State := (s.dividerAdvance c).countdownAdvance c

end Sys2Proof.Machine
end

