-- ==== Sys2Proof/Machine/Interrupts.lean ====
section
/-! DEFINITION. The interrupt controller's servicing round (60_exceptions.md R322 to R324) and the scheduler's work after
an instruction (R300). IF and IE are read and written at their cells, the stack bytes through the bus (20_memory.md R77). -/

namespace Sys2Proof.Machine

/-- `IF & IE & 0x1F`: the sources that are pending and enabled (R322). -/
def State.pendingEnabled (s : State) : Byte := s.cellRead Params.intFlag &&& s.cellRead Params.intEnable &&& 0x1F

/-- The lowest-numbered source of a pending mask (R322). -/
def firstSource (pend : Byte) : Option IntSource :=
  if pend.getLsbD 0 then some .vblank
  else if pend.getLsbD 1 then some .lcdStat
  else if pend.getLsbD 2 then some .timer
  else if pend.getLsbD 3 then some .serial
  else if pend.getLsbD 4 then some .joypad
  else none

/-- The un-halt: PC moves past the HALT, whatever IME is (R323). -/
def State.unhalt (s : State) : State := (s.setHalted false).setPc (s.pc + 1)

/-- The cycles a dispatch is charged, fed to TIMER and PPU after it; none by default (R324, decision D10, log entry 6). -/
def State.chargeDispatch (s : State) : State :=
  match Params.intDispatchCycles with
  | 0 => s
  | n => (s.timerAdvance n).ppuAdvance n

/-- `ServicePending()`: the pending mask is taken once, before the un-halt; at most one dispatch (R322). -/
def State.servicePending (s : State) : State :=
  let pend := s.pendingEnabled
  let s := if s.halted && pend != 0 then s.unhalt else s
  match s.ime, firstSource pend with
  | true, some src => (s.takeInterrupt src).chargeDispatch
  | _, _ => s

/-- What the scheduler does with the state an instruction leaves: nothing if it raised the fatal fault (R310), else TIMER,
PPU and IC in this order, each fed the instruction's cost (R300). -/
def State.afterInstruction (s : State) : State :=
  match s.fault with
  | some _ => s
  | none => ((s.timerAdvance s.numCycles).ppuAdvance s.numCycles).servicePending

end Sys2Proof.Machine
end

