-- ==== Sys2Proof/Machine/Step.lean ====
section
/-! DEFINITION. One scheduler step (60_exceptions.md R300), and placing an instruction where the step fetches. -/

namespace Sys2Proof.Machine

/-- `SchedulerStep()`: a faulted machine takes no step and is unchanged (R300, R310); otherwise the instruction at PC is
executed and the scheduler does the rest (R300, R301). -/
def step (s : State) : Result :=
  match s.fault with
  | some _ => .next s
  | none =>
    match exec s.fetchInstr s with
    | .next t => .next t.afterInstruction
    | .fault r => .fault r
    | .refused r => .refused r

/-- `s` with the instruction whose opcode-table word is `w` stored at PC, PC + 1 and PC + 2, where `step` fetches its next
instruction, into the cells, as a loaded image is; nothing else changes (log entry 12; the word's numbering: log entry 16). -/
def State.withFetchWord (s : State) (nbits w : Nat) : State :=
  let bytes := tableBytes nbits w
  ((s.cellWrite s.pc bytes.1).cellWrite (s.pc + 1) bytes.2.1).cellWrite (s.pc + 2) bytes.2.2

end Sys2Proof.Machine
end

