-- ==== Sys2Proof/Machine/HostActions.lean ====
section
/-! DEFINITION. What the host may do between two steps (60_exceptions.md R380, R381; 70_reset_and_hazards.md R400, R401),
and runs over a sequence of steps and host actions (log entry 9). -/

namespace Sys2Proof.Machine

/-- Toggle a button's bits in JOYP (R380; which bits is a free value, log entry 8). -/
def State.toggleButton (s : State) (k : Button) : State :=
  s.cellWrite Params.joyp (s.cellRead Params.joyp ^^^ Config.joypadToggle k)

/-- `ButtonPress(k)`: toggle the bit and request source 4 (R380). -/
def State.buttonPress (s : State) (k : Button) : State := (s.toggleButton k).request .joypad

/-- `ButtonRelease(k)`: toggle the bit, no request (R380). -/
def State.buttonRelease (s : State) (k : Button) : State := s.toggleButton k

/-- Write the reset value of every memory-mapped register but JOYP (R400, 10_state.md R55). -/
def State.resetRegisters (s : State) : State := Params.ioReset.foldl (fun s r => s.cellWrite r.1 r.2) s

/-- `Reset`: every state element of 10_state.md R20 takes its value of R55, and every byte of memory outside the
registers keeps its content (R400). The model's own count of FrameReady events goes on (log entry 3). -/
def State.hostReset (s : State) : State := ({ State.reset with mem := s.mem, frames := s.frames }).resetRegisters

/-- Power-on: reset applied to a machine whose memory is the loaded image (R401). -/
def powerOn (image : Memory) : State := ({ State.reset with mem := image }).hostReset

/-- `ReadFrame`: the frame buffer (R380). -/
def State.readFrame (s : State) : Surface Shade := s.frameBuffer

/-- `SaveState`: the whole state (R381). -/
def State.saveState (s : State) : State := s

/-- `LoadState(st)`: the whole state is replaced, unchecked (R381, log entry 11), the fault record with it. DESIGN CHOICE: so it
takes a faulted machine out of the fault state when `st` holds no fault, though R310, R400 and 10_state.md R33 call reset the
only way out (log entry 22). -/
def State.loadState (_ : State) (st : State) : State := st

/-- The host's actions (R380). Closing the window ends the run and is no action on the state. -/
inductive HostAction where
  | buttonPress (k : Button)
  | buttonRelease (k : Button)
  | readFrame
  | reset
  | saveState
  | loadState (st : State)
  deriving DecidableEq, Repr

/-- The state after a host action (R380). -/
def State.hostAct (s : State) : HostAction → State
  | .buttonPress k => s.buttonPress k
  | .buttonRelease k => s.buttonRelease k
  | .readFrame => s
  | .reset => s.hostReset
  | .saveState => s.saveState
  | .loadState st => s.loadState st

/-- What happens next: a scheduler step, or a host action between two steps (R302, R380). -/
inductive Event where
  | step
  | host (act : HostAction)
  deriving DecidableEq, Repr

/-- One event. -/
def runEvent (s : State) : Event → Result
  | .step => step s
  | .host act => .next (s.hostAct act)

/-- A run over a sequence of events, stopping at the first that answers no next state. -/
def runEvents (s : State) : List Event → Result
  | [] => .next s
  | ev :: rest =>
    match runEvent s ev with
    | .next t => runEvents t rest
    | .fault r => .fault r
    | .refused r => .refused r

end Sys2Proof.Machine
end

