-- ==== Sys2Proof/Safety.lean ====
section
/-! DEFINITION. The terms claims are stated in: the codes of the operands, what an instruction keeps (its frame), the
outcomes of the families that write flags, the renderer's formulas in plain arithmetic, and the invariants of a run. A run
is safe here when it never reaches the fatal fault; no step of this machine stops. -/

namespace Sys2Proof

/-! ### Operand codes (30_encoding.md R94 to R100) -/

/-- `r8` codes; 6 is the byte at HL (R94). -/
def Reg.code : Reg → BitVec 3
  | .b => 0 | .c => 1 | .d => 2 | .e => 3 | .h => 4 | .l => 5 | .a => 7

/-- `rp` codes (R95). -/
def Pair.code : Pair → BitVec 2
  | .bc => 0 | .de => 1 | .hl => 2 | .sp => 3

/-- `rp2` codes (R96). -/
def StackPair.code : StackPair → BitVec 2
  | .bc => 0 | .de => 1 | .hl => 2 | .af => 3

/-- Condition codes (R97). -/
def Cond.code : Cond → BitVec 2
  | .nz => 0 | .z => 1 | .nc => 2 | .c => 3

/-- ALU operation codes (R98). -/
def AluOp.code : AluOp → BitVec 3
  | .add => 0 | .adc => 1 | .sub => 2 | .sbc => 3 | .and => 4 | .xor => 5 | .or => 6 | .cp => 7

/-- Rotate and shift operation codes (R99). -/
def RotOp.code : RotOp → BitVec 3
  | .rlc => 0 | .rrc => 1 | .rl => 2 | .rr => 3 | .sla => 4 | .sra => 5 | .swap => 6 | .srl => 7

/-- The accumulator rotates have the first four of those codes (R99). -/
def AccRotOp.op : AccRotOp → RotOp
  | .rlca => .rlc | .rrca => .rrc | .rla => .rl | .rra => .rr

/-- The three bits of a field value (R100). -/
def Code3.bits (k : Code3) : BitVec 3 := BitVec.ofNat 3 k.toNat

/-- The registers a pair is made of; SP is none of them (10_state.md R23). -/
def Pair.regs : Pair → List Reg
  | .bc => [.b, .c] | .de => [.d, .e] | .hl => [.h, .l] | .sp => []

/-- The registers of R22 that a stack pair is made of; F is none of them (10_state.md R22, R23). -/
def StackPair.regs : StackPair → List Reg
  | .bc => [.b, .c] | .de => [.d, .e] | .hl => [.h, .l] | .af => [.a]

namespace Machine

/-! ### Frames -/

/-- Every register of R22 outside `written` is kept. -/
def KeepsRegs (written : List Reg) (s t : State) : Prop := ∀ r : Reg, r ∉ written → t.reg r = s.reg r

/-- Every byte of memory reads as before. -/
def KeepsMemory (s t : State) : Prop := ∀ k : Word, t.memRead k = s.memRead k

/-- Every byte of memory outside the `stored` addresses reads as before. -/
def KeepsMemoryBut (stored : List Word) (s t : State) : Prop := ∀ k : Word, k ∉ stored → t.memRead k = s.memRead k

/-- IME, the halted flag and the fault record are kept. -/
structure KeepsControl (s t : State) : Prop where
  ime : t.ime = s.ime
  halted : t.halted = s.halted
  fault : t.fault = s.fault

/-- The hidden state of TIMER is kept (10_state.md R51). -/
structure KeepsTimer (s t : State) : Prop where
  divAcc : t.divAcc = s.divAcc
  countdown : t.countdown = s.countdown

/-- The hidden state of PPU, its surfaces and its output are kept (10_state.md R52). -/
structure KeepsPpu (s t : State) : Prop where
  lineCounter : t.lineCounter = s.lineCounter
  mode : t.mode = s.mode
  linesRendered : t.linesRendered = s.linesRendered
  bgSurface : t.bgSurface = s.bgSurface
  winSurface : t.winSurface = s.winSurface
  sprSurface : t.sprSurface = s.sprSurface
  frameBuffer : t.frameBuffer = s.frameBuffer
  frames : t.frames = s.frames

/-- The hidden state of TIMER and PPU is kept. -/
structure KeepsDevices (s t : State) : Prop where
  timer : KeepsTimer s t
  ppu : KeepsPpu s t

/-- Every state element of the CPU but the listed registers' and memory is kept: what TIMER and PPU leave alone. -/
structure KeepsCpu (s t : State) : Prop where
  regs : KeepsRegs [] s t
  f : t.f = s.f
  sp : t.sp = s.sp
  pc : t.pc = s.pc
  numCycles : t.numCycles = s.numCycles
  control : KeepsControl s t

/-- The instruction is `len` bytes long, cost `cycles`, went on to the byte after it, and kept the control state and the
devices. -/
structure Steps (len cycles : Nat) (s t : State) : Prop where
  pc : t.pc = s.pc + BitVec.ofNat 16 len
  numCycles : t.numCycles = cycles
  control : KeepsControl s t
  devices : KeepsDevices s t

/-- As `Steps`, for an instruction that also kept SP and all memory. -/
structure StepsPure (len cycles : Nat) (s t : State) : Prop where
  steps : Steps len cycles s t
  sp : t.sp = s.sp
  memory : KeepsMemory s t

/-- Control went to `target` at the cost `cycles`; every register, the flags, the control state and the devices are
kept. -/
structure Transfers (target : Word) (cycles : Nat) (s t : State) : Prop where
  pc : t.pc = target
  numCycles : t.numCycles = cycles
  regs : KeepsRegs [] s t
  flags : t.f = s.f
  control : KeepsControl s t
  devices : KeepsDevices s t

/-- As `Transfers`, for an instruction that also kept SP and all memory. -/
structure TransfersPure (target : Word) (cycles : Nat) (s t : State) : Prop where
  transfers : Transfers target cycles s t
  sp : t.sp = s.sp
  memory : KeepsMemory s t

/-- The word `v` was pushed: the high byte below the old SP, the low byte below it, SP down by two, no other byte of
memory changed (20_memory.md R66). -/
structure Pushed (v : Word) (s t : State) : Prop where
  sp : t.sp = s.sp - 2
  high : t.memRead (s.sp - 1) = v.hi
  low : t.memRead (s.sp - 2) = v.lo
  memory : KeepsMemoryBut [s.sp - 1, s.sp - 2] s t

/-- A word was popped and memory is unchanged: SP is up by two (20_memory.md R67). -/
structure Popped (s t : State) : Prop where
  sp : t.sp = s.sp + 2
  memory : KeepsMemory s t

/-- The two bytes at SP as a word: the low byte at SP, the high byte at SP + 1 (20_memory.md R63, R67). -/
def State.wordAtSp (s : State) : Word := Word.ofBytes (s.memRead (s.sp + 1)) (s.memRead s.sp)

/-- The four flags of `t`, the low nibble of F being zero (R24, R25). -/
structure FlagsAre (t : State) (z n h c : Bool) : Prop where
  z : t.f.getLsbD 7 = z
  n : t.f.getLsbD 6 = n
  h : t.f.getLsbD 5 = h
  c : t.f.getLsbD 4 = c
  low : t.f &&& 0x0F = 0

/-- Whether a condition holds of the flags (45_control.md R245). -/
def condition (s : State) : Cond → Prop
  | .nz => s.f.getLsbD 7 = false
  | .z => s.f.getLsbD 7 = true
  | .nc => s.f.getLsbD 4 = false
  | .c => s.f.getLsbD 4 = true

/-! ### Where an instruction stores (20_memory.md R65) -/

/-- The two bytes that Push16 stores to (20_memory.md R66). -/
def State.belowSp (s : State) : List Word := [s.sp - 1, s.sp - 2]

/-- The addresses an instruction stores to in the state `s`, computed with the meanings' own expressions: none for the forms
that store nothing, a CALL cc that is not taken among them (20_memory.md R65). -/
def storedTo (i : Instr) (s : State) : List Word :=
  match i with
  | .ldAtBcA => [s.pair .bc]
  | .ldAtWordSp nn => [nn, nn + 1]
  | .ldAtDeA => [s.pair .de]
  | .callNzWord _ => if s.holds .nz then s.belowSp else []
  | .callZWord _ => if s.holds .z then s.belowSp else []
  | .callNcWord _ => if s.holds .nc then s.belowSp else []
  | .callCWord _ => if s.holds .c then s.belowSp else []
  | .ldhAtImmA n => [highPage n]
  | .ldhAtCA => [highPage s.c]
  | .ldAtWordA nn => [nn]
  | .ldAtHlB | .ldAtHlC | .ldAtHlD | .ldAtHlE | .ldAtHlH | .ldAtHlL | .ldAtHlA | .ldAtHlImm _ | .ldAtHlIncA
  | .ldAtHlDecA | .incAtHl | .decAtHl | .rlcAtHl | .rrcAtHl | .rlAtHl | .rrAtHl | .slaAtHl | .sraAtHl | .swapAtHl
  | .srlAtHl | .res0AtHl | .res1AtHl | .res2AtHl | .res3AtHl | .res4AtHl | .res5AtHl | .res6AtHl | .res7AtHl
  | .set0AtHl | .set1AtHl | .set2AtHl | .set3AtHl | .set4AtHl | .set5AtHl | .set6AtHl | .set7AtHl => [s.hl]
  | .pushBc | .pushDe | .pushHl | .pushAf | .callWord _ | .rst00 | .rst08 | .rst10 | .rst18 | .rst20 | .rst28
  | .rst30 | .rst38 => s.belowSp
  | _ => []

/-! ### Outcomes of the ALU families, in plain arithmetic -/

/-- A plus `x` plus a carry in went to A, with its flags; nothing else changed (42_alu8.md R182). -/
structure AddOutcome (x : Byte) (cin : Bool) (len cycles : Nat) (s t : State) : Prop where
  a : t.a.toNat = (s.a.toNat + x.toNat + cin.toNat) % 256
  flags : FlagsAre t (decide (t.a = 0)) false (decide (s.a.toNat % 16 + x.toNat % 16 + cin.toNat > 0xF))
    (decide (s.a.toNat + x.toNat + cin.toNat > 0xFF))
  regs : KeepsRegs [.a] s t
  rest : StepsPure len cycles s t

/-- The flags of A minus `x` minus a borrow in whose result byte is `res` (42_alu8.md R183). -/
def SubFlags (x : Byte) (cin : Bool) (res : Byte) (s t : State) : Prop :=
  FlagsAre t (decide (res = 0)) true (decide (s.a.toNat % 16 < x.toNat % 16 + cin.toNat))
    (decide (s.a.toNat < x.toNat + cin.toNat))

/-- A minus `x` minus a borrow in went to A, with its flags; nothing else changed (42_alu8.md R183). -/
structure SubOutcome (x : Byte) (cin : Bool) (len cycles : Nat) (s t : State) : Prop where
  a : t.a.toNat = (s.a.toNat + 512 - x.toNat - cin.toNat) % 256
  flags : SubFlags x cin t.a s t
  regs : KeepsRegs [.a] s t
  rest : StepsPure len cycles s t

/-- A was compared with `x`: the flags of the subtraction, and nothing else changed (42_alu8.md R171). -/
structure CompareOutcome (x : Byte) (len cycles : Nat) (s t : State) : Prop where
  flags : SubFlags x false (s.a - x) s t
  regs : KeepsRegs [] s t
  rest : StepsPure len cycles s t

/-- `v` went to A with Z evaluated, N and C cleared and H as given; nothing else changed (42_alu8.md section 4). -/
structure LogicOutcome (v : Byte) (h : Bool) (len cycles : Nat) (s t : State) : Prop where
  a : t.a = v
  flags : FlagsAre t (decide (v = 0)) false h false
  regs : KeepsRegs [.a] s t
  rest : StepsPure len cycles s t

/-- The value of a rotate or shift of byte `v` with carry in `cin`, in plain arithmetic (44_rotate_shift_bit.md R226). -/
def rotValue (k : RotOp) (v cin : Nat) : Nat :=
  match k with
  | .rlc => v * 2 % 256 + v / 128
  | .rrc => v / 2 + 128 * (v % 2)
  | .rl => v * 2 % 256 + cin
  | .rr => v / 2 + 128 * cin
  | .sla => v * 2 % 256
  | .sra => v / 2 + 128 * (v / 128)
  | .swap => v % 16 * 16 + v / 16
  | .srl => v / 2

/-- The bit a rotate or shift of byte `v` shifts out; 0 for SWAP (44_rotate_shift_bit.md R226). -/
def rotOut (k : RotOp) (v : Nat) : Nat :=
  match k with
  | .rlc => v / 128 | .rrc => v % 2 | .rl => v / 128 | .rr => v % 2
  | .sla => v / 128 | .sra => v % 2 | .swap => 0 | .srl => v % 2

/-! ### The renderer in plain arithmetic (60_exceptions.md R359 to R363) -/

/-- The byte at an address, as a number. -/
def State.num (s : State) (addr : Nat) : Nat := (s.memRead (BitVec.ofNat 16 addr)).toNat

/-- The colour index in row `row`, column `col` of the tile at `addr`: `hi[7-col]` and `lo[7-col]` (R359). -/
def State.colourIndex (s : State) (addr row col : Nat) : Nat :=
  2 * (s.num (addr + 2 * row + 1) / 2 ^ (7 - col) % 2) + s.num (addr + 2 * row) / 2 ^ (7 - col) % 2

/-- Entry `ci` of the palette register `pal` (R359). -/
def paletteEntry (pal ci : Nat) : Nat := pal / 4 ^ ci % 4

/-- The address of tile `idx` of background and window: LCDC bit 4 selects (R359). -/
def State.mapTileAddr (s : State) (idx : Nat) : Nat :=
  if s.num 0xFF40 / 16 % 2 = 1 then 0x8000 + 16 * idx
  else if idx < 128 then 0x9000 + 16 * idx else 0x9000 + 16 * idx - 16 * 256

/-- The shade at column `px`, row `py` of the plane of the tile-index table at `map`, through BGP (R360, R361). -/
def State.planeShade (s : State) (map px py : Nat) : Nat :=
  paletteEntry (s.num 0xFF47)
    (s.colourIndex (s.mapTileAddr (s.num (map + 32 * (py / 8) + px / 8))) (py % 8) (px % 8))

/-- Sprite slot `slot` draws shade `v` at `(x, y)`: some row and column of its rectangle lies there, its colour index is
not 0, and its priority bit does not hide it behind the pixel underneath (R363). -/
def SpriteDraws (s : State) (slot x y : Nat) (v : Shade) : Prop :=
  let attr := s.num (0xFE00 + 4 * slot + 3)
  let h := if s.num 0xFF40 / 4 % 2 = 1 then 16 else 8
  ∃ r c, r < h ∧ c < 8 ∧ y + 16 = s.num (0xFE00 + 4 * slot) + r ∧ x + 8 = s.num (0xFE00 + 4 * slot + 1) + c ∧
    let line := if attr / 64 % 2 = 1 then h - 1 - r else r
    let t := s.num (0xFE00 + 4 * slot + 2)
    let tile := if h = 16 then t / 2 * 2 + (if line ≥ 8 then 1 else 0) else t
    let col := if attr / 32 % 2 = 1 then 7 - c else c
    let ci := s.colourIndex (0x8000 + 16 * tile) (line % 8) col
    ci ≠ 0 ∧ ¬ (attr / 128 = 1 ∧ (s.winSurface.cell none x y).getD (s.bgSurface.cell 0 x y) ≠ 0) ∧
      v.toNat = paletteEntry (s.num (if attr / 16 % 2 = 1 then 0xFF49 else 0xFF48)) ci

/-! ### Outcomes of the other families -/

/-- A was loaded from the byte at `addr`, and nothing else changed. -/
def LoadsA (i : Instr) (addr : Word) (len cycles : Nat) (s : State) : Prop :=
  ∃ t, exec i s = .next t ∧ t.a = s.memRead addr ∧ KeepsRegs [.a] s t ∧ t.f = s.f ∧ StepsPure len cycles s t

/-- A was stored to the byte at `addr`, and nothing else changed. -/
def StoresA (i : Instr) (addr : Word) (len cycles : Nat) (s : State) : Prop :=
  ∃ t, exec i s = .next t ∧ t.memRead addr = s.a ∧ KeepsMemoryBut [addr] s t ∧ KeepsRegs [] s t ∧ t.f = s.f ∧
    t.sp = s.sp ∧ Steps len cycles s t

/-- A was loaded from the byte at HL, then HL became `hl`; nothing else changed. -/
def LoadsAStepping (i : Instr) (hl : Word) (s : State) : Prop :=
  ∃ t, exec i s = .next t ∧ t.a = s.memRead s.hl ∧ Word.ofBytes t.h t.l = hl ∧ KeepsRegs [.a, .h, .l] s t ∧ t.f = s.f ∧
    StepsPure 1 8 s t

/-- A was stored to the byte at the old HL, then HL became `hl`; nothing else changed. -/
def StoresAStepping (i : Instr) (hl : Word) (s : State) : Prop :=
  ∃ t, exec i s = .next t ∧ t.memRead s.hl = s.a ∧ KeepsMemoryBut [s.hl] s t ∧ Word.ofBytes t.h t.l = hl ∧
    KeepsRegs [.h, .l] s t ∧ t.f = s.f ∧ t.sp = s.sp ∧ Steps 1 8 s t

/-- The flags and the result that LD HL,SP+e and ADD SP,e compute from SP and `e` (43_alu16.md R194): the flags come from
the unsigned addition of the low bytes. -/
def SpPlus (e : Byte) (res : Word) (s t : State) : Prop :=
  (res.toNat : Int) = ((s.sp.toNat : Int) + e.toInt) % 65536 ∧
  FlagsAre t false false (decide (s.sp.toNat % 16 + e.toNat % 16 > 0x0F)) (decide (s.sp.toNat % 256 + e.toNat > 0xFF))

/-- An ALU operation's three operand forms are encoded by its code (30_encoding.md R98, R101). -/
def AluEncoding (op : AluOp) (r : Reg) (n : Byte) : Prop :=
  encode (Row.aluReg op r) = [0b10#2 ++ op.code ++ r.code] ∧
  encode (Row.aluAtHl op) = [0b10#2 ++ op.code ++ 0b110#3] ∧
  encode (Row.aluImm op n) = [0b11#2 ++ op.code ++ 0b110#3, n]

/-- The value of AND, XOR and OR, bit by bit. -/
def LogicValue (op : AluOp) (x y : Byte) (v : Byte) : Prop :=
  ∀ i, v.getLsbD i =
    match op with
    | .and => x.getLsbD i && y.getLsbD i
    | .xor => x.getLsbD i != y.getLsbD i
    | _ => x.getLsbD i || y.getLsbD i

/-- The flags of an increment of a byte from `v` to `res`: C kept (R174). -/
def IncFlags (v res : Byte) (s t : State) : Prop :=
  res.toNat = (v.toNat + 1) % 256 ∧
  FlagsAre t (decide (res = 0)) false (decide (v.toNat % 16 = 15)) (s.f.getLsbD 4)

/-- The flags of a decrement of a byte from `v` to `res`: C kept (R176). -/
def DecFlags (v res : Byte) (s t : State) : Prop :=
  res.toNat = (v.toNat + 255) % 256 ∧
  FlagsAre t (decide (res = 0)) true (decide (v.toNat % 16 = 0)) (s.f.getLsbD 4)

/-- The byte `v` with bit `b` as given, every other bit as it was. -/
def BitMade (b : Code3) (bit : Bool) (v res : Byte) : Prop :=
  ∀ i, i < 8 → res.getLsbD i = if i = b.toNat then bit else v.getLsbD i

/-! ### The PPU's line, counter and mode after an advance -/

/-- The line register after a PPU advance of `c` cycles (R351, R352). -/
def LineAfter (s : State) (c : Nat) : Nat :=
  if s.lineCounter - c ≤ 0 then
    if (s.memRead 0xFF44).toNat + 1 > 153 then 0 else (s.memRead 0xFF44).toNat + 1
  else (s.memRead 0xFF44).toNat

/-- The line counter after a PPU advance of `c` cycles (R351). -/
def CounterAfter (s : State) (c : Nat) : Int :=
  if s.lineCounter - c ≤ 0 then s.lineCounter - c + 456 else s.lineCounter - c

/-- The mode after a PPU advance of `c` cycles, as a number (R350, R354): by line, else by the cycles elapsed in it. -/
def ModeAfter (s : State) (c : Nat) : Nat :=
  if LineAfter s c ≥ 144 then 1
  else if 456 - CounterAfter s c < 80 then 2
  else if 456 - CounterAfter s c < 252 then 3
  else 0

/-! ### Interrupt sources -/

/-- The source is pending and enabled: its bit of IF and of IE is 1 (60_exceptions.md R320). -/
def State.pendingAndEnabled (s : State) (src : IntSource) : Prop :=
  (s.memRead 0xFF0F).getLsbD src.index = true ∧ (s.memRead 0xFFFF).getLsbD src.index = true

/-- The machine has a source that is pending and enabled. -/
def State.somePending (s : State) : Prop := ∃ src, s.pendingAndEnabled src

/-! ### Invariants of a run -/

/-- Bits 3:0 of F are zero (10_state.md R24). -/
def State.FlagsClean (s : State) : Prop := s.f &&& 0x0F = 0

/-- The memory is in its canonical form. -/
def State.MemoryCanonical (s : State) : Prop := s.mem.wf = true

/-- The counters lie in the ranges that 10_state.md R20, R32, R51 and R52 give them between steps. -/
structure State.CountersInRange (s : State) : Prop where
  numCycles : s.numCycles ≤ 24 ∧ s.numCycles % 4 = 0
  divAcc : s.divAcc < 256
  countdown : 0 < s.countdown ∧ s.countdown ≤ 1024
  lineCounter : 1 ≤ s.lineCounter ∧ s.lineCounter ≤ 456
  linesRendered : s.linesRendered ≤ 144

/-- A surface has 144 rows of 160 cells (10_state.md R52). -/
def Surface.Sized {cell : Type} (surf : Surface cell) : Prop :=
  surf.length = Config.screenHeight ∧ ∀ row ∈ surf, row.length = Config.screenWidth

/-- The three surfaces and the frame buffer are 160x144 cells each (10_state.md R20, R52). -/
structure State.SurfacesSized (s : State) : Prop where
  bg : s.bgSurface.Sized
  win : s.winSurface.Sized
  spr : s.sprSurface.Sized
  frame : s.frameBuffer.Sized

end Machine

end Sys2Proof
end

