-- ==== Sys2Proof/Certificates/Slice0/Obligations.lean ====
section
/-! DEFINITION. The statements for the provers. Every instruction statement has the shape: the encoding of the rule; then,
for every state, that the instruction answers a next state, what that state holds, and what is kept. `Row.f` names the
instructions of one field pattern by their operands (Decode.lean). -/

open Sys2Proof

open Sys2Proof.Machine

/-! ### Encoding and decoding -/

/-- Words written out from the spec's own examples and bit patterns decode to the instruction they stand for
(30_encoding.md R90 to R102). -/
def Obligations.DecodeWordsOfTheSpec : Prop :=
  decode [0b01111000] = .ok (.ldAB, []) ∧
  decode [0b00111110, 0x42] = .ok (.ldAImm 0x42, []) ∧
  decode [0b00100001, 0x00, 0xC0] = .ok (.ldHlWord 0xC000, []) ∧
  decode [0b11110001] = .ok (.popAf, []) ∧
  decode [0b10001110] = .ok (.adcAAtHl, []) ∧
  decode [0b00100111] = .ok (.daa, []) ∧
  decode [0b00001001] = .ok (.addHlBc, []) ∧
  decode [0b11001011, 0b00110111] = .ok (.swapA, []) ∧
  decode [0b11001011, 0b01111110] = .ok (.bit7AtHl, []) ∧
  decode [0b11001011, 0b11001011] = .ok (.set1E, []) ∧
  decode [0b11001101, 0x34, 0x12] = .ok (.callWord 0x1234, []) ∧
  decode [0b00100000, 0xFB] = .ok (.jrNzOff 0xFB, []) ∧
  decode [0b01110110] = .ok (.halt, []) ∧
  decode [0b11011101] = .ok (.illegalDD, [])

/-- Decoding the encoding of any instruction, with any operand value and whatever bytes follow, gives the instruction and
leaves the bytes that follow. -/
def Obligations.DecodeOfEncode : Prop :=
  ∀ (i : Instr) (rest : List Byte), decode (encode i ++ rest) = .ok (i, rest)

/-- Whatever decodes to an instruction other than STOP is that instruction's encoding followed by the rest: no two byte
sequences mean one instruction. STOP's second byte is ignored (30_encoding.md R104). -/
def Obligations.EncodeOfDecode : Prop :=
  ∀ (bytes rest : List Byte) (i : Instr), decode bytes = .ok (i, rest) → i ≠ .stop → encode i ++ rest = bytes

/-- What byte 0 alone decides (30_encoding.md R103, R105): the length, 3 for the seventeen OP_NN opcodes, 2 for the OP_N,
OP_E and CB_OP ones, 1 for every other, decoding taking exactly that many bytes; and whether the instruction is recognized,
all but the eleven values being so, whatever bytes follow. -/
def Obligations.ByteZeroDecides : Prop :=
  ∀ (b0 b1 b2 : Byte) (rest : List Byte),
    (decode (b0 :: b1 :: b2 :: rest) =
      .ok (decodeBytes b0 b1 b2, (b0 :: b1 :: b2 :: rest).drop (lengthOfOpcode b0))) ∧
    (lengthOfOpcode b0 = 3 ↔
      b0 ∈ ([0x01, 0x11, 0x21, 0x31, 0x08, 0xC2, 0xCA, 0xD2, 0xDA, 0xC3, 0xC4, 0xCC, 0xD4, 0xDC, 0xCD, 0xEA, 0xFA] :
        List Byte)) ∧
    (lengthOfOpcode b0 = 2 ↔
      b0 ∈ ([0x06, 0x0E, 0x16, 0x1E, 0x26, 0x2E, 0x36, 0x3E, 0xC6, 0xCE, 0xD6, 0xDE, 0xE6, 0xEE, 0xF6, 0xFE, 0xE0, 0xF0,
        0x10, 0x18, 0x20, 0x28, 0x30, 0x38, 0xE8, 0xF8, 0xCB] : List Byte)) ∧
    1 ≤ lengthOfOpcode b0 ∧ lengthOfOpcode b0 ≤ 3 ∧
    ((decodeBytes b0 b1 b2).wellFormed = false ↔
      b0 ∈ ([0xD3, 0xDB, 0xDD, 0xE3, 0xE4, 0xEB, 0xEC, 0xED, 0xF4, 0xFC, 0xFD] : List Byte))

/-! ### The step -/

/-- A step of a machine that has not faulted executes the instruction that the bytes at PC, PC + 1 and PC + 2 decode to;
then TIMER, PPU and IC follow, in this order, each fed the cost the instruction left; a step whose instruction raised the
fatal fault ends there (60_exceptions.md R300, R301, R310). -/
def Obligations.StepRunsDecoded : Prop :=
  ∀ (s t : State) (i : Instr) (rest : List Byte), s.fault = none →
    decode [s.memRead s.pc, s.memRead (s.pc + 1), s.memRead (s.pc + 2)] = .ok (i, rest) →
    exec i s = .next t →
      (t.fault = none → step s = .next ((t.timerAdvance t.numCycles).ppuAdvance t.numCycles).servicePending) ∧
      (t.fault ≠ none → step s = .next t)

/-- Every step answers a next state: no state, no memory and no instruction ends a run (log entry 5); and a faulted machine
takes no step (60_exceptions.md R310). -/
def Obligations.EveryStepAnswersNext : Prop :=
  ∀ s : State, (∃ t, step s = .next t) ∧ (s.fault ≠ none → step s = .next s)

/-! ### 8-bit loads -/

/-- LD r,r' (40_loads8.md R120), LD r,n (R121) and LD r,(HL) (R122): ldBB to ldAA, ldBImm to ldAImm, ldBAtHl to ldAAtHl. -/
def Obligations.LoadRegister : Prop :=
  ∀ (r src : Reg) (n : Byte) (s : State),
    encode (Row.ldReg r src) = [0b01#2 ++ r.code ++ src.code] ∧
    encode (Row.ldRegImm r n) = [0b00#2 ++ r.code ++ 0b110#3, n] ∧
    encode (Row.ldRegAtHl r) = [0b01#2 ++ r.code ++ 0b110#3] ∧
    (∃ t, exec (Row.ldReg r src) s = .next t ∧
      t.reg r = s.reg src ∧ KeepsRegs [r] s t ∧ t.f = s.f ∧ StepsPure 1 4 s t) ∧
    (∃ t, exec (Row.ldRegImm r n) s = .next t ∧
      t.reg r = n ∧ KeepsRegs [r] s t ∧ t.f = s.f ∧ StepsPure 2 8 s t) ∧
    (∃ t, exec (Row.ldRegAtHl r) s = .next t ∧
      t.reg r = s.memRead (Word.ofBytes s.h s.l) ∧ KeepsRegs [r] s t ∧ t.f = s.f ∧ StepsPure 1 8 s t)

/-- LD (HL),r (R123) and LD (HL),n (R124): ldAtHlB to ldAtHlA, ldAtHlImm. The byte stored to is the one at HL. -/
def Obligations.StoreAtHl : Prop :=
  ∀ (r : Reg) (n : Byte) (s : State),
    encode (Row.ldAtHlReg r) = [0b01110#5 ++ r.code] ∧
    encode (.ldAtHlImm n) = [0x36, n] ∧
    (∃ t, exec (Row.ldAtHlReg r) s = .next t ∧
      t.memRead s.hl = s.reg r ∧ KeepsMemoryBut [s.hl] s t ∧ KeepsRegs [] s t ∧ t.f = s.f ∧ t.sp = s.sp ∧
      Steps 1 8 s t) ∧
    (∃ t, exec (.ldAtHlImm n) s = .next t ∧
      t.memRead s.hl = n ∧ KeepsMemoryBut [s.hl] s t ∧ KeepsRegs [] s t ∧ t.f = s.f ∧ t.sp = s.sp ∧ Steps 2 12 s t)

/-- LD A,(BC), LD A,(DE), LD A,(nn), LDH A,(C), LDH A,(n) (R125, R126, R129, R131, R133): ldAAtBc, ldAAtDe, ldAAtWord,
ldhAAtC, ldhAAtImm. -/
def Obligations.LoadAccumulator : Prop :=
  ∀ (n : Byte) (nn : Word) (s : State),
    (encode .ldAAtBc = [0x0A] ∧ encode .ldAAtDe = [0x1A] ∧ encode (.ldAAtWord nn) = [0xFA, nn.lo, nn.hi] ∧
      encode .ldhAAtC = [0xF2] ∧ encode (.ldhAAtImm n) = [0xF0, n]) ∧
    LoadsA .ldAAtBc (Word.ofBytes s.b s.c) 1 8 s ∧
    LoadsA .ldAAtDe (Word.ofBytes s.d s.e) 1 8 s ∧
    LoadsA (.ldAAtWord nn) nn 3 16 s ∧
    LoadsA .ldhAAtC (Word.ofBytes 0xFF s.c) 1 8 s ∧
    LoadsA (.ldhAAtImm n) (Word.ofBytes 0xFF n) 2 12 s

/-- LD (BC),A, LD (DE),A, LD (nn),A, LDH (C),A, LDH (n),A (R127, R128, R130, R132, R134): ldAtBcA, ldAtDeA, ldAtWordA,
ldhAtCA, ldhAtImmA. The high-page address is computed with the meaning's `highPage`. -/
def Obligations.StoreAccumulator : Prop :=
  ∀ (n : Byte) (nn : Word) (s : State),
    (encode .ldAtBcA = [0x02] ∧ encode .ldAtDeA = [0x12] ∧ encode (.ldAtWordA nn) = [0xEA, nn.lo, nn.hi] ∧
      encode .ldhAtCA = [0xE2] ∧ encode (.ldhAtImmA n) = [0xE0, n]) ∧
    highPage n = 0xFF00 + BitVec.ofNat 16 n.toNat ∧
    StoresA .ldAtBcA (s.pair .bc) 1 8 s ∧
    StoresA .ldAtDeA (s.pair .de) 1 8 s ∧
    StoresA (.ldAtWordA nn) nn 3 16 s ∧
    StoresA .ldhAtCA (highPage s.c) 1 8 s ∧
    StoresA (.ldhAtImmA n) (highPage n) 2 12 s

/-- LD A,(HL-), LD (HL-),A, LD A,(HL+), LD (HL+),A (R135 to R138): ldAAtHlDec, ldAtHlDecA, ldAAtHlInc, ldAtHlIncA. -/
def Obligations.LoadStoreStepping : Prop :=
  ∀ s : State,
    (encode .ldAAtHlDec = [0x3A] ∧ encode .ldAtHlDecA = [0x32] ∧ encode .ldAAtHlInc = [0x2A] ∧
      encode .ldAtHlIncA = [0x22]) ∧
    LoadsAStepping .ldAAtHlDec (s.hl - 1) s ∧
    StoresAStepping .ldAtHlDecA (s.hl - 1) s ∧
    LoadsAStepping .ldAAtHlInc (s.hl + 1) s ∧
    StoresAStepping .ldAtHlIncA (s.hl + 1) s

/-! ### 16-bit loads and the stack -/

/-- LD rr,nn (41_loads16_stack.md R140) and LD SP,HL (R142): ldBcWord, ldDeWord, ldHlWord, ldSpWord, ldSpHl. -/
def Obligations.LoadPair : Prop :=
  ∀ (p : Pair) (nn : Word) (s : State),
    encode (Row.ldPairWord p nn) = [0b00#2 ++ p.code ++ 0b0001#4, nn.lo, nn.hi] ∧
    encode .ldSpHl = [0xF9] ∧
    (∃ t, exec (Row.ldPairWord p nn) s = .next t ∧
      t.pair p = nn ∧ KeepsRegs p.regs s t ∧ (p ≠ .sp → t.sp = s.sp) ∧ t.f = s.f ∧ KeepsMemory s t ∧ Steps 3 12 s t) ∧
    (∃ t, exec .ldSpHl s = .next t ∧
      t.sp = Word.ofBytes s.h s.l ∧ KeepsRegs [] s t ∧ t.f = s.f ∧ KeepsMemory s t ∧ Steps 1 8 s t)

/-- LD (nn),SP (R141): the low byte at nn, the high byte at nn + 1 modulo 2^16. -/
def Obligations.StoreStackPointer : Prop :=
  ∀ (nn : Word) (s : State),
    encode (.ldAtWordSp nn) = [0x08, nn.lo, nn.hi] ∧
    ∃ t, exec (.ldAtWordSp nn) s = .next t ∧
      t.memRead nn = s.sp.lo ∧ t.memRead (nn + 1) = s.sp.hi ∧ KeepsMemoryBut [nn, nn + 1] s t ∧ KeepsRegs [] s t ∧
      t.f = s.f ∧ t.sp = s.sp ∧ Steps 3 20 s t

/-- PUSH qq (R143): pushBc, pushDe, pushHl, pushAf. -/
def Obligations.PushRegisterPair : Prop :=
  ∀ (p : StackPair) (s : State),
    encode (Row.pushPair p) = [0b11#2 ++ p.code ++ 0b0101#4] ∧
    s.stackPair .bc = Word.ofBytes s.b s.c ∧ s.stackPair .de = Word.ofBytes s.d s.e ∧
    s.stackPair .hl = Word.ofBytes s.h s.l ∧ s.stackPair .af = Word.ofBytes s.a s.f ∧
    ∃ t, exec (Row.pushPair p) s = .next t ∧
      Pushed (s.stackPair p) s t ∧ KeepsRegs [] s t ∧ t.f = s.f ∧ Steps 1 16 s t

/-- POP qq (R144): popBc, popDe, popHl, popAf. POP AF discards the low nibble of the popped byte. -/
def Obligations.PopRegisterPair : Prop :=
  ∀ (p : StackPair) (s : State),
    encode (Row.popPair p) = [0b11#2 ++ p.code ++ 0b0001#4] ∧
    ∃ t, exec (Row.popPair p) s = .next t ∧
      Popped s t ∧ KeepsRegs p.regs s t ∧ Steps 1 12 s t ∧
      (p ≠ .af → t.stackPair p = s.wordAtSp ∧ t.f = s.f) ∧
      (p = .af → t.a = s.wordAtSp.hi ∧ t.f = s.wordAtSp.lo &&& 0xF0)

/-- LD HL,SP+e (R145) and ADD SP,e (43_alu16.md R193): ldHlSpOff, addSpOff. -/
def Obligations.StackPointerPlusOffset : Prop :=
  ∀ (e : Byte) (s : State),
    encode (.ldHlSpOff e) = [0xF8, e] ∧ encode (.addSpOff e) = [0xE8, e] ∧
    (∃ t, exec (.ldHlSpOff e) s = .next t ∧
      SpPlus e (Word.ofBytes t.h t.l) s t ∧ KeepsRegs [.h, .l] s t ∧ StepsPure 2 12 s t) ∧
    (∃ t, exec (.addSpOff e) s = .next t ∧
      SpPlus e t.sp s t ∧ KeepsRegs [] s t ∧ KeepsMemory s t ∧ Steps 2 16 s t)

/-! ### 8-bit arithmetic and logic -/

/-- ADD A,x and ADC A,x with a register, the byte at HL and an immediate (42_alu8.md R150 to R155): addAB to addAA, addAAtHl,
addAImm, adcAB to adcAA, adcAAtHl, adcAImm. ADC adds the old C into both sums. -/
def Obligations.AddAndAdc : Prop :=
  ∀ (op : AluOp) (r : Reg) (n : Byte) (s : State), op = .add ∨ op = .adc →
    let cin := decide (op = .adc) && s.f.getLsbD 4
    AluEncoding op r n ∧
    (∃ t, exec (Row.aluReg op r) s = .next t ∧ AddOutcome (s.reg r) cin 1 4 s t) ∧
    (∃ t, exec (Row.aluAtHl op) s = .next t ∧ AddOutcome (s.memRead (Word.ofBytes s.h s.l)) cin 1 8 s t) ∧
    (∃ t, exec (Row.aluImm op n) s = .next t ∧ AddOutcome n cin 2 8 s t)

/-- SUB A,x and SBC A,x with a register, the byte at HL and an immediate (R156 to R161): subAB to subAA, subAAtHl, subAImm,
sbcAB to sbcAA, sbcAAtHl, sbcAImm. SBC takes the old C into both differences. -/
def Obligations.SubAndSbc : Prop :=
  ∀ (op : AluOp) (r : Reg) (n : Byte) (s : State), op = .sub ∨ op = .sbc →
    let cin := decide (op = .sbc) && s.f.getLsbD 4
    AluEncoding op r n ∧
    (∃ t, exec (Row.aluReg op r) s = .next t ∧ SubOutcome (s.reg r) cin 1 4 s t) ∧
    (∃ t, exec (Row.aluAtHl op) s = .next t ∧ SubOutcome (s.memRead (Word.ofBytes s.h s.l)) cin 1 8 s t) ∧
    (∃ t, exec (Row.aluImm op n) s = .next t ∧ SubOutcome n cin 2 8 s t)

/-- CP A,x with a register, the byte at HL and an immediate (R171 to R173): cpAB to cpAA, cpAAtHl, cpAImm. -/
def Obligations.Compare : Prop :=
  ∀ (r : Reg) (n : Byte) (s : State),
    AluEncoding .cp r n ∧
    (∃ t, exec (Row.aluReg .cp r) s = .next t ∧ CompareOutcome (s.reg r) 1 4 s t) ∧
    (∃ t, exec (Row.aluAtHl .cp) s = .next t ∧ CompareOutcome (s.memRead (Word.ofBytes s.h s.l)) 1 8 s t) ∧
    (∃ t, exec (Row.aluImm .cp n) s = .next t ∧ CompareOutcome n 2 8 s t)

/-- AND, XOR, OR with a register, the byte at HL and an immediate (R162 to R170): andAB to andAA, andAAtHl, andAImm, and the
same of xor and or. H is 1 after AND and 0 after the others. -/
def Obligations.Logic : Prop :=
  ∀ (op : AluOp) (r : Reg) (n : Byte) (s : State), op = .and ∨ op = .xor ∨ op = .or →
    AluEncoding op r n ∧
    (∃ t v, exec (Row.aluReg op r) s = .next t ∧
      LogicValue op s.a (s.reg r) v ∧ LogicOutcome v (decide (op = .and)) 1 4 s t) ∧
    (∃ t v, exec (Row.aluAtHl op) s = .next t ∧
      LogicValue op s.a (s.memRead (Word.ofBytes s.h s.l)) v ∧
        LogicOutcome v (decide (op = .and)) 1 8 s t) ∧
    (∃ t v, exec (Row.aluImm op n) s = .next t ∧
      LogicValue op s.a n v ∧ LogicOutcome v (decide (op = .and)) 2 8 s t)

/-- INC r (R174) and DEC r (R176): incB to incA, decB to decA. -/
def Obligations.IncDecRegister : Prop :=
  ∀ (r : Reg) (s : State),
    encode (Row.incReg r) = [0b00#2 ++ r.code ++ 0b100#3] ∧ encode (Row.decReg r) = [0b00#2 ++ r.code ++ 0b101#3] ∧
    (∃ t, exec (Row.incReg r) s = .next t ∧
      IncFlags (s.reg r) (t.reg r) s t ∧ KeepsRegs [r] s t ∧ StepsPure 1 4 s t) ∧
    (∃ t, exec (Row.decReg r) s = .next t ∧
      DecFlags (s.reg r) (t.reg r) s t ∧ KeepsRegs [r] s t ∧ StepsPure 1 4 s t)

/-- INC (HL) (R175) and DEC (HL) (R177): incAtHl, decAtHl. -/
def Obligations.IncDecAtHl : Prop :=
  ∀ s : State,
    encode .incAtHl = [0x34] ∧ encode .decAtHl = [0x35] ∧
    (∃ t, exec .incAtHl s = .next t ∧
      IncFlags (s.memRead s.hl) (t.memRead s.hl) s t ∧ KeepsMemoryBut [s.hl] s t ∧ KeepsRegs [] s t ∧
      t.sp = s.sp ∧ Steps 1 12 s t) ∧
    (∃ t, exec .decAtHl s = .next t ∧
      DecFlags (s.memRead s.hl) (t.memRead s.hl) s t ∧ KeepsMemoryBut [s.hl] s t ∧ KeepsRegs [] s t ∧
      t.sp = s.sp ∧ Steps 1 12 s t)

/-- DAA (R178), the instruction daa: after an addition the corrections follow the flags and the nibbles, after a subtraction
the flags alone; N kept, H cleared, C never cleared. -/
def Obligations.DecimalAdjust : Prop :=
  ∀ s : State,
    let n := s.f.getLsbD 6
    let high := s.f.getLsbD 4 || (!n && decide (s.a.toNat > 0x99))
    let low := s.f.getLsbD 5 || (!n && decide (s.a.toNat % 16 > 9))
    let correction : Int := (if high then 0x60 else 0) + (if low then 0x06 else 0)
    encode .daa = [0x27] ∧
    ∃ t, exec .daa s = .next t ∧
      (t.a.toNat : Int) = (if n then (s.a.toNat : Int) - correction else s.a.toNat + correction) % 256 ∧
      FlagsAre t (decide (t.a = 0)) n false high ∧ KeepsRegs [.a] s t ∧ StepsPure 1 4 s t

/-- ADD A,n then DAA adds two-digit decimals: of two valid BCD bytes, A becomes the BCD of the sum modulo 100 and C says
whether the sum reached 100 (R178). -/
def Obligations.DaaAfterAddIsDecimal : Prop :=
  ∀ (s t u : State) (x1 x0 y1 y0 : Nat), x1 < 10 → x0 < 10 → y1 < 10 → y0 < 10 →
    s.a = BitVec.ofNat 8 (16 * x1 + x0) →
    exec (.addAImm (BitVec.ofNat 8 (16 * y1 + y0))) s = .next t → exec .daa t = .next u →
      let sum := 10 * x1 + x0 + (10 * y1 + y0)
      u.a.toNat = 16 * (sum % 100 / 10) + sum % 10 ∧ u.f.getLsbD 4 = decide (sum ≥ 100)

/-- CPL, SCF, CCF (R179 to R181): cpl, scf, ccf. Z is kept by all three, C by CPL. -/
def Obligations.ComplementAndCarry : Prop :=
  ∀ s : State,
    (encode .cpl = [0x2F] ∧ encode .scf = [0x37] ∧ encode .ccf = [0x3F]) ∧
    (∃ t, exec .cpl s = .next t ∧
      t.a.toNat = 255 - s.a.toNat ∧ FlagsAre t (s.f.getLsbD 7) true true (s.f.getLsbD 4) ∧ KeepsRegs [.a] s t ∧
      StepsPure 1 4 s t) ∧
    (∃ t, exec .scf s = .next t ∧
      FlagsAre t (s.f.getLsbD 7) false false true ∧ KeepsRegs [] s t ∧ StepsPure 1 4 s t) ∧
    (∃ t, exec .ccf s = .next t ∧
      FlagsAre t (s.f.getLsbD 7) false false (!s.f.getLsbD 4) ∧ KeepsRegs [] s t ∧ StepsPure 1 4 s t)

/-! ### 16-bit arithmetic -/

/-- ADD HL,rr (43_alu16.md R190): addHlBc, addHlDe, addHlHl, addHlSp. Z kept, H from bit 11, C from bit 15. -/
def Obligations.AddToHl : Prop :=
  ∀ (p : Pair) (s : State),
    encode (Row.addHlPair p) = [0b00#2 ++ p.code ++ 0b1001#4] ∧
    let x := (Word.ofBytes s.h s.l).toNat
    let y := (s.pair p).toNat
    ∃ t, exec (Row.addHlPair p) s = .next t ∧
      (Word.ofBytes t.h t.l).toNat = (x + y) % 65536 ∧
      FlagsAre t (s.f.getLsbD 7) false (decide (x % 4096 + y % 4096 > 0xFFF)) (decide (x + y > 0xFFFF)) ∧
      KeepsRegs [.h, .l] s t ∧ StepsPure 1 8 s t

/-- INC rr (R191) and DEC rr (R192): incBc, incDe, incHl, incSp, decBc, decDe, decHl, decSp. No flag is written. -/
def Obligations.IncDecPair : Prop :=
  ∀ (p : Pair) (s : State),
    encode (Row.incPair p) = [0b00#2 ++ p.code ++ 0b0011#4] ∧ encode (Row.decPair p) = [0b00#2 ++ p.code ++ 0b1011#4] ∧
    (∃ t, exec (Row.incPair p) s = .next t ∧
      (t.pair p).toNat = ((s.pair p).toNat + 1) % 65536 ∧ KeepsRegs p.regs s t ∧ (p ≠ .sp → t.sp = s.sp) ∧ t.f = s.f ∧
      KeepsMemory s t ∧ Steps 1 8 s t) ∧
    (∃ t, exec (Row.decPair p) s = .next t ∧
      (t.pair p).toNat = ((s.pair p).toNat + 65535) % 65536 ∧ KeepsRegs p.regs s t ∧ (p ≠ .sp → t.sp = s.sp) ∧
      t.f = s.f ∧ KeepsMemory s t ∧ Steps 1 8 s t)

/-! ### Rotates, shifts and bits -/

/-- RLCA, RRCA, RLA, RRA (44_rotate_shift_bit.md R200 to R203): rlca, rrca, rla, rra. Z is forced to 0. -/
def Obligations.AccumulatorRotates : Prop :=
  ∀ (k : AccRotOp) (s : State),
    encode (Row.rotAcc k) = [0b00#2 ++ k.op.code ++ 0b111#3] ∧
    ∃ t, exec (Row.rotAcc k) s = .next t ∧
      t.a.toNat = rotValue k.op s.a.toNat (s.f.getLsbD 4).toNat ∧
      FlagsAre t false false false (decide (rotOut k.op s.a.toNat = 1)) ∧ KeepsRegs [.a] s t ∧ StepsPure 1 4 s t

/-- RLC, RRC, RL, RR, SLA, SRA, SWAP, SRL of a register (R204, R206, ..., R218): rlcB to srlA without the (HL) forms. -/
def Obligations.RotateRegister : Prop :=
  ∀ (k : RotOp) (r : Reg) (s : State),
    encode (Row.rotReg k r) = [0xCB, 0b00#2 ++ k.code ++ r.code] ∧
    ∃ t, exec (Row.rotReg k r) s = .next t ∧
      (t.reg r).toNat = rotValue k (s.reg r).toNat (s.f.getLsbD 4).toNat ∧
      FlagsAre t (decide (t.reg r = 0)) false false (decide (rotOut k (s.reg r).toNat = 1)) ∧ KeepsRegs [r] s t ∧
      StepsPure 2 8 s t

/-- RLC, RRC, RL, RR, SLA, SRA, SWAP, SRL of the byte at HL (R205, R207, ..., R219): rlcAtHl to srlAtHl. -/
def Obligations.RotateAtHl : Prop :=
  ∀ (k : RotOp) (s : State),
    encode (Row.rotMem k) = [0xCB, 0b00#2 ++ k.code ++ 0b110#3] ∧
    ∃ t, exec (Row.rotMem k) s = .next t ∧
      (t.memRead s.hl).toNat = rotValue k (s.memRead s.hl).toNat (s.f.getLsbD 4).toNat ∧
      FlagsAre t (decide (t.memRead s.hl = 0)) false false (decide (rotOut k (s.memRead s.hl).toNat = 1)) ∧
      KeepsMemoryBut [s.hl] s t ∧ KeepsRegs [] s t ∧ t.sp = s.sp ∧ Steps 2 16 s t

/-- BIT b,r (R220) and BIT b,(HL) (R221): bit0B to bit7A, bit0AtHl to bit7AtHl. Z when the bit is clear, H set, C kept. -/
def Obligations.BitTest : Prop :=
  ∀ (b : Code3) (r : Reg) (s : State),
    encode (Row.bitReg b r) = [0xCB, 0b01#2 ++ b.bits ++ r.code] ∧
    encode (Row.bitMem b) = [0xCB, 0b01#2 ++ b.bits ++ 0b110#3] ∧
    (∃ t, exec (Row.bitReg b r) s = .next t ∧
      FlagsAre t (decide ((s.reg r).toNat / 2 ^ b.toNat % 2 = 0)) false true (s.f.getLsbD 4) ∧ KeepsRegs [] s t ∧
      StepsPure 2 8 s t) ∧
    (∃ t, exec (Row.bitMem b) s = .next t ∧
      FlagsAre t (decide ((s.memRead (Word.ofBytes s.h s.l)).toNat / 2 ^ b.toNat % 2 = 0)) false true (s.f.getLsbD 4) ∧
      KeepsRegs [] s t ∧ StepsPure 2 12 s t)

/-- RES b,x and SET b,x of a register (R222, R224) and of the byte at HL (R223, R225): res0B to res7A, set0B to set7A, the
(HL) forms among them. No flag is written. -/
def Obligations.ResAndSet : Prop :=
  ∀ (b : Code3) (r : Reg) (s : State),
    (encode (Row.resReg b r) = [0xCB, 0b10#2 ++ b.bits ++ r.code] ∧
      encode (Row.setBitReg b r) = [0xCB, 0b11#2 ++ b.bits ++ r.code] ∧
      encode (Row.resMem b) = [0xCB, 0b10#2 ++ b.bits ++ 0b110#3] ∧
      encode (Row.setBitMem b) = [0xCB, 0b11#2 ++ b.bits ++ 0b110#3]) ∧
    (∃ t, exec (Row.resReg b r) s = .next t ∧
      BitMade b false (s.reg r) (t.reg r) ∧ KeepsRegs [r] s t ∧ t.f = s.f ∧ StepsPure 2 8 s t) ∧
    (∃ t, exec (Row.setBitReg b r) s = .next t ∧
      BitMade b true (s.reg r) (t.reg r) ∧ KeepsRegs [r] s t ∧ t.f = s.f ∧ StepsPure 2 8 s t) ∧
    (∃ t, exec (Row.resMem b) s = .next t ∧
      BitMade b false (s.memRead s.hl) (t.memRead s.hl) ∧ KeepsMemoryBut [s.hl] s t ∧ KeepsRegs [] s t ∧ t.f = s.f ∧
      t.sp = s.sp ∧ Steps 2 16 s t) ∧
    (∃ t, exec (Row.setBitMem b) s = .next t ∧
      BitMade b true (s.memRead s.hl) (t.memRead s.hl) ∧ KeepsMemoryBut [s.hl] s t ∧ KeepsRegs [] s t ∧ t.f = s.f ∧
      t.sp = s.sp ∧ Steps 2 16 s t)

/-! ### Control transfer -/

/-- JP nn, JP HL, JR e (45_control.md R240, R242, R243): jpWord, jpHl, jrOff. A relative target is the address of the next
instruction plus the signed offset, modulo 2^16. -/
def Obligations.Jumps : Prop :=
  ∀ (nn : Word) (e : Byte) (s : State),
    (encode (.jpWord nn) = [0xC3, nn.lo, nn.hi] ∧ encode .jpHl = [0xE9] ∧ encode (.jrOff e) = [0x18, e]) ∧
    (∃ t, exec (.jpWord nn) s = .next t ∧ TransfersPure nn 16 s t) ∧
    (∃ t, exec .jpHl s = .next t ∧ TransfersPure (Word.ofBytes s.h s.l) 4 s t) ∧
    (∃ t, exec (.jrOff e) s = .next t ∧ TransfersPure (BitVec.ofInt 16 (s.pc.toNat + 2 + e.toInt)) 12 s t)

/-- JP cc,nn (R241) and JR cc,e (R244) under the conditions of R245: jpNzWord, jpZWord, jpNcWord, jpCWord, jrNzOff, jrZOff,
jrNcOff, jrCOff. Taken: as the unconditional jump. Not taken: the next instruction, at the lower cost. -/
def Obligations.ConditionalJumps : Prop :=
  ∀ (cc : Cond) (nn : Word) (e : Byte) (s : State),
    encode (Row.jumpIf cc nn) = [0b110#3 ++ cc.code ++ 0b010#3, nn.lo, nn.hi] ∧
    encode (Row.jumpRelIf cc e) = [0b001#3 ++ cc.code ++ 0b000#3, e] ∧
    (∃ t, exec (Row.jumpIf cc nn) s = .next t ∧
      (condition s cc → TransfersPure nn 16 s t) ∧ (¬ condition s cc → TransfersPure (s.pc + 3) 12 s t)) ∧
    (∃ t, exec (Row.jumpRelIf cc e) s = .next t ∧
      (condition s cc → TransfersPure (BitVec.ofInt 16 (s.pc.toNat + 2 + e.toInt)) 12 s t) ∧
      (¬ condition s cc → TransfersPure (s.pc + 2) 8 s t))

/-- CALL nn (R246), CALL cc,nn (R247) and RST t (R251): callWord, callNzWord, callZWord, callNcWord, callCWord, rst00 to
rst38. The word pushed is the address of the instruction after this one; not taken, nothing is pushed. -/
def Obligations.Calls : Prop :=
  ∀ (cc : Cond) (nn : Word) (y : Code3) (s : State),
    encode (.callWord nn) = [0xCD, nn.lo, nn.hi] ∧
    encode (Row.callIf cc nn) = [0b110#3 ++ cc.code ++ 0b100#3, nn.lo, nn.hi] ∧
    encode (Row.restart y) = [0b11#2 ++ y.bits ++ 0b111#3] ∧
    (∃ t, exec (.callWord nn) s = .next t ∧ Transfers nn 24 s t ∧ Pushed (s.pc + 3) s t) ∧
    (∃ t, exec (Row.callIf cc nn) s = .next t ∧
      (condition s cc → Transfers nn 24 s t ∧ Pushed (s.pc + 3) s t) ∧
      (¬ condition s cc → TransfersPure (s.pc + 3) 12 s t)) ∧
    (∃ t, exec (Row.restart y) s = .next t ∧
      Transfers (BitVec.ofNat 16 (8 * y.toNat)) 16 s t ∧ Pushed (s.pc + 1) s t)

/-- RET (R248) and RET cc (R249): ret, retNz, retZ, retNc, retC. Not taken, SP and memory are untouched. -/
def Obligations.Returns : Prop :=
  ∀ (cc : Cond) (s : State),
    encode .ret = [0xC9] ∧ encode (Row.returnIf cc) = [0b110#3 ++ cc.code ++ 0b000#3] ∧
    (∃ t, exec .ret s = .next t ∧ Transfers s.wordAtSp 16 s t ∧ Popped s t) ∧
    (∃ t, exec (Row.returnIf cc) s = .next t ∧
      (condition s cc → Transfers s.wordAtSp 20 s t ∧ Popped s t) ∧
      (¬ condition s cc → TransfersPure (s.pc + 1) 8 s t))

/-- RETI (R250), the instruction reti: pops PC and sets IME, whatever it was; restores nothing else. That it costs what RET
costs is the spec's decision D9. -/
def Obligations.ReturnFromInterrupt : Prop :=
  ∀ s : State,
    encode .reti = [0xD9] ∧
    ∃ t, exec .reti s = .next t ∧
      t.pc = s.wordAtSp ∧ t.ime = true ∧ t.halted = s.halted ∧ t.fault = s.fault ∧ t.numCycles = 16 ∧ Popped s t ∧
      KeepsRegs [] s t ∧ t.f = s.f ∧ KeepsDevices s t

/-- CALL nn followed by RET leaves SP and every register and flag as before, PC after the CALL, and the return address in
the two bytes below the old SP, the one change of memory, in 40 cycles; the same of RST, one byte long, in 32; and of a
dispatch followed by RETI, which resumes the interrupted PC with IME set, the source's bit of IF besides (R252, derived
there). -/
def Obligations.ReturnUndoesCall : Prop :=
  ∀ (nn : Word) (y : Code3) (src : IntSource) (s t u : State),
    (exec (.callWord nn) s = .next t → exec .ret t = .next u →
      u.pc = s.pc + 3 ∧ u.sp = s.sp ∧ KeepsRegs [] s u ∧ u.f = s.f ∧ t.numCycles + u.numCycles = 40 ∧
      u.memRead (s.sp - 1) = (s.pc + 3).hi ∧ u.memRead (s.sp - 2) = (s.pc + 3).lo ∧
      KeepsMemoryBut [s.sp - 1, s.sp - 2] s u) ∧
    (exec (Row.restart y) s = .next t → exec .ret t = .next u →
      u.pc = s.pc + 1 ∧ u.sp = s.sp ∧ KeepsRegs [] s u ∧ u.f = s.f ∧ t.numCycles + u.numCycles = 32 ∧
      u.memRead (s.sp - 1) = (s.pc + 1).hi ∧ u.memRead (s.sp - 2) = (s.pc + 1).lo ∧
      KeepsMemoryBut [s.sp - 1, s.sp - 2] s u) ∧
    (exec .reti (s.takeInterrupt src) = .next u →
      u.pc = s.pc ∧ u.ime = true ∧ u.sp = s.sp ∧ KeepsRegs [] s u ∧ u.f = s.f ∧
      u.memRead (s.sp - 1) = s.pc.hi ∧ u.memRead (s.sp - 2) = s.pc.lo ∧
      KeepsMemoryBut [s.sp - 1, s.sp - 2, 0xFF0F] s u)

/-! ### System instructions and the fatal fault -/

/-- NOP, DI, EI (46_system.md R260, R263, R264): nop, di, ei. DI and EI act at once, in the instruction itself (the spec's
decision D12). -/
def Obligations.NopDiEi : Prop :=
  ∀ s : State,
    (encode .nop = [0x00] ∧ encode .di = [0xF3] ∧ encode .ei = [0xFB]) ∧
    (∃ t, exec .nop s = .next t ∧ TransfersPure (s.pc + 1) 4 s t) ∧
    (∃ t, exec .di s = .next t ∧
      t.ime = false ∧ t.pc = s.pc + 1 ∧ t.numCycles = 4 ∧ t.halted = s.halted ∧ t.fault = s.fault ∧ KeepsRegs [] s t ∧
      t.f = s.f ∧ t.sp = s.sp ∧ KeepsMemory s t ∧ KeepsDevices s t) ∧
    (∃ t, exec .ei s = .next t ∧
      t.ime = true ∧ t.pc = s.pc + 1 ∧ t.numCycles = 4 ∧ t.halted = s.halted ∧ t.fault = s.fault ∧ KeepsRegs [] s t ∧
      t.f = s.f ∧ t.sp = s.sp ∧ KeepsMemory s t ∧ KeepsDevices s t)

/-- HALT (R261), the instruction halt: sets `halted` and leaves PC on itself. Its cost of 4 is the spec's decision D8. -/
def Obligations.Halt : Prop :=
  ∀ s : State,
    encode .halt = [0x76] ∧
    ∃ t, exec .halt s = .next t ∧
      t.halted = true ∧ t.pc = s.pc ∧ t.numCycles = 4 ∧ t.ime = s.ime ∧ t.fault = s.fault ∧ KeepsRegs [] s t ∧
      t.f = s.f ∧ t.sp = s.sp ∧ KeepsMemory s t ∧ KeepsDevices s t

/-- The eleven unrecognized opcodes (R266) and STOP (R262) take the fatal fault (60_exceptions.md R310, R311): the record is
kept with the address of the opcode, num_cycles is 0, PC stays and nothing else changes; in the step, TIMER, PPU and IC do
not run. That STOP does so is the spec's decision D13, that the fault is a state its decision D14. -/
def Obligations.FatalFaults : Prop :=
  ∀ s : State,
    exec .stop s = .next { s with numCycles := 0, fault := some (.stop s.pc) } ∧
    (∀ p ∈ ([(.illegalD3, 0xD3), (.illegalDB, 0xDB), (.illegalDD, 0xDD), (.illegalE3, 0xE3), (.illegalE4, 0xE4),
        (.illegalEB, 0xEB), (.illegalEC, 0xEC), (.illegalED, 0xED), (.illegalF4, 0xF4), (.illegalFC, 0xFC),
        (.illegalFD, 0xFD)] : List (Instr × Byte)),
      encode p.1 = [p.2] ∧
      exec p.1 s = .next { s with numCycles := 0, fault := some (.illegalOpcode s.pc p.2) }) ∧
    (s.fault = none → s.memRead s.pc = 0x10 →
      step s = .next { s with numCycles := 0, fault := some (.stop s.pc) }) ∧
    (s.fault = none →
      s.memRead s.pc ∈ ([0xD3, 0xDB, 0xDD, 0xE3, 0xE4, 0xEB, 0xEC, 0xED, 0xF4, 0xFC, 0xFD] : List Byte) →
      step s = .next { s with numCycles := 0, fault := some (.illegalOpcode s.pc (s.memRead s.pc)) })

/-! ### Rules of the whole instruction set -/

/-- No instruction but the eleven unrecognized opcodes and STOP raises a fault, whatever the state (60_exceptions.md R311);
and the cost of every other one is a multiple of 4, at least 4 and at most 24 (70_reset_and_hazards.md R420, where the
costs are the spec's decision D8). -/
def Obligations.FaultsAndCosts : Prop :=
  ∀ (i : Instr) (s t : State), exec i s = .next t → i ≠ .stop → i.wellFormed = true →
    t.fault = s.fault ∧ t.numCycles % 4 = 0 ∧ 4 ≤ t.numCycles ∧ t.numCycles ≤ 24

/-- IME is written by EI and RETI, which set it, and by DI, which clears it, and by no other instruction (10_state.md R30);
`halted` is written by HALT, which sets it, and by no other instruction (R31). -/
def Obligations.ControlBitWriters : Prop :=
  ∀ (i : Instr) (s t : State), exec i s = .next t →
    (t.ime = if i = .ei ∨ i = .reti then true else if i = .di then false else s.ime) ∧
    (t.halted = if i = .halt then true else s.halted)

/-- No instruction touches the hidden state of TIMER and PPU or the surfaces; and every byte of memory outside the addresses
the instruction stores to reads as before, all of memory for a form that stores nothing. The addresses are computed from the
operands and the state by `storedTo` (Safety.lean), with the meanings' own expressions: HL, BC, DE, nn, the high page, nn and
nn + 1 of LD (nn),SP, the two bytes below SP (20_memory.md R65, R66, R77). -/
def Obligations.InstructionFootprint : Prop :=
  ∀ (i : Instr) (s t : State), exec i s = .next t → KeepsDevices s t ∧ KeepsMemoryBut (storedTo i s) s t

/-! ### Invariants -/

/-- Every step keeps the low nibble of F zero (10_state.md R24). -/
def Obligations.StepKeepsFlagsClean : Prop :=
  ∀ s t : State, s.FlagsClean → step s = .next t → t.FlagsClean

/-- Every step keeps the memory in its canonical form. -/
def Obligations.StepKeepsMemoryCanonical : Prop :=
  ∀ s t : State, s.MemoryCanonical → step s = .next t → t.MemoryCanonical

/-- Every step keeps the counters in their ranges: num_cycles at most 24 and a multiple of 4 (10_state.md R20, R32), the
divider's accumulator below 256 and the countdown positive (R51), line_counter 1 to 456 and lines_rendered at most 144 (R52,
60_exceptions.md R351). That the countdown is at most 1024 is the longest period of the parameter PERIOD (10_state.md R46,
60_exceptions.md R341), the spec's decision D18 and no statement of the source (log entry 7). -/
def Obligations.StepKeepsCountersInRange : Prop :=
  ∀ s t : State, s.CountersInRange → step s = .next t → t.CountersInRange

/-- Every step keeps the surfaces at 144 rows of 160 cells. -/
def Obligations.StepKeepsSurfacesSized : Prop :=
  ∀ s t : State, s.SurfacesSized → step s = .next t → t.SurfacesSized

/-- The state after reset has the four values the source gives (10_state.md R55), a PC at the entry point (R402), and meets
the four invariants. -/
def Obligations.ResetState : Prop :=
  (State.reset.a = 0x01 ∧ State.reset.f = 0xB0 ∧ State.reset.sp = 0xFFFE ∧ State.reset.pc = 0x0100) ∧
  State.reset.FlagsClean ∧ State.reset.MemoryCanonical ∧ State.reset.CountersInRange ∧ State.reset.SurfacesSized

/-! ### Reset and the host -/

/-- Reset gives every state element its value of R55 from any state, a faulted one included, and keeps every byte of memory
that is no register of the table, JOYP among them (70_reset_and_hazards.md R400). The values other than those of A, F, SP,
PC and num_cycles are the spec's decision D28 (log entry 2). -/
def Obligations.HostReset : Prop :=
  ∀ s : State,
    let t := s.hostReset
    let table : List (Word × Byte) :=
      [(0xFF04, 0x00), (0xFF05, 0x00), (0xFF06, 0x00), (0xFF07, 0x00), (0xFF0F, 0x00), (0xFF40, 0x91), (0xFF41, 0x06),
        (0xFF42, 0x00), (0xFF43, 0x00), (0xFF44, 0x00), (0xFF45, 0x00), (0xFF47, 0xFC), (0xFF48, 0xFF), (0xFF49, 0xFF),
        (0xFF4A, 0x00), (0xFF4B, 0x00), (0xFFFF, 0x00)]
    (t.a = 0x01 ∧ t.f = 0xB0 ∧ t.b = 0x00 ∧ t.c = 0x13 ∧ t.d = 0x00 ∧ t.e = 0xD8 ∧ t.h = 0x01 ∧ t.l = 0x4D ∧
      t.sp = 0xFFFE ∧ t.pc = 0x0100) ∧
    (t.ime = false ∧ t.halted = false ∧ t.numCycles = 0 ∧ t.fault = none) ∧
    (t.divAcc = 0 ∧ t.countdown = 1024 ∧ t.lineCounter = 456 ∧ t.mode = .oamSearch ∧ t.linesRendered = 0) ∧
    (∀ x y, x < 160 → y < 144 →
      t.bgSurface.cell 3 x y = 0 ∧ t.winSurface.cell (some 3) x y = none ∧ t.sprSurface.cell (some 3) x y = none ∧
        t.frameBuffer.cell 3 x y = 0) ∧
    (∀ p ∈ table, t.memRead p.1 = p.2) ∧
    (∀ k : Word, k ∉ table.map Prod.fst → t.memRead k = s.memRead k)

/-- The first step after power-on, with a NOP at 0x0100 (70_reset_and_hazards.md R403, derived there). -/
def Obligations.FirstStepAfterPowerOn : Prop :=
  ∀ image : Memory, Memory.lookup image 0x0100 = 0x00 →
    ∃ t, step (powerOn image) = .next t ∧
      t.pc = 0x0101 ∧ t.numCycles = 4 ∧ t.divAcc = 4 ∧ t.countdown = 1024 ∧ t.lineCounter = 452 ∧ t.mode = .oamSearch ∧
      t.memRead 0xFF41 = 0x06 ∧ t.memRead 0xFF44 = 0 ∧ t.memRead 0xFF0F = 0x00 ∧ KeepsRegs [] State.reset t ∧
      t.f = State.reset.f ∧ t.sp = State.reset.sp

/-- ButtonPress requests source 4 and ButtonRelease requests nothing; besides that they change at most JOYP, whose new value
is left free (60_exceptions.md R380; log entry 8). -/
def Obligations.ButtonActions : Prop :=
  ∀ (k : Button) (s : State),
    let t := s.hostAct (.buttonPress k)
    let u := s.hostAct (.buttonRelease k)
    t.memRead 0xFF0F = s.memRead 0xFF0F ||| 0x10 ∧ KeepsMemoryBut [0xFF00, 0xFF0F] s t ∧ KeepsCpu s t ∧
      KeepsDevices s t ∧
    KeepsMemoryBut [0xFF00] s u ∧ KeepsCpu s u ∧ KeepsDevices s u

/-! ### Interrupts -/

/-- Servicing with IME set dispatches the lowest-numbered source that is pending and enabled, after un-halting: PC is
pushed, IME and the source's pending bit are cleared, control goes to the source's vector, and no register, flag or other
byte changes (60_exceptions.md R322 to R325, R328). -/
def Obligations.InterruptDispatch : Prop :=
  ∀ (s : State) (src : IntSource), s.ime = true → s.pendingAndEnabled src →
    (∀ other : IntSource, other.index < src.index → ¬ s.pendingAndEnabled other) →
    let t := s.servicePending
    let resume := if s.halted then s.pc + 1 else s.pc
    t.ime = false ∧ t.halted = false ∧ t.pc = BitVec.ofNat 16 (0x40 + 8 * src.index) ∧ t.sp = s.sp - 2 ∧
    t.memRead (s.sp - 1) = resume.hi ∧ t.memRead (s.sp - 2) = resume.lo ∧
    (0xFF0F ∉ [s.sp - 1, s.sp - 2] →
      ∀ i, (t.memRead 0xFF0F).getLsbD i = if i = src.index then false else (s.memRead 0xFF0F).getLsbD i) ∧
    KeepsMemoryBut [s.sp - 1, s.sp - 2, 0xFF0F] s t ∧ KeepsRegs [] s t ∧ t.f = s.f ∧ t.numCycles = s.numCycles ∧
    t.fault = s.fault ∧ KeepsDevices s t

/-- Servicing without a dispatch: a halted CPU with a source pending and enabled wakes and moves past the HALT whatever IME
is, and nothing else changes; with nothing pending and enabled, or with IME clear and the CPU not halted, servicing changes
nothing (R322, R323). -/
def Obligations.UnhaltWithoutDispatch : Prop :=
  ∀ s : State,
    (s.ime = false → s.halted = true → s.somePending →
      s.servicePending = { s with halted := false, pc := s.pc + 1 }) ∧
    (¬ s.somePending → s.servicePending = s) ∧
    (s.ime = false → s.halted = false → s.servicePending = s)

/-! ### Timer -/

/-- TimerAdvance (60_exceptions.md R340 to R342): DIV steps when its accumulator reaches 256, the excess dropped; with
TAC[2] set the countdown falls by the cycles, and at zero or below it is set to the period of TAC[1:0] and TIMA steps,
reloading from TMA and requesting source 2 if it was 255. Nothing else changes. The bits of TAC and the four periods are those
of 10_state.md R46, the spec's decision D18 (log entry 7). -/
def Obligations.TimerAdvances : Prop :=
  ∀ (s : State) (c : Nat),
    let t := s.timerAdvance c
    let period : Int := match (s.memRead 0xFF07).toNat % 4 with
      | 0 => 1024 | 1 => 16 | 2 => 64 | _ => 256
    let tick : Prop := (s.memRead 0xFF07).getLsbD 2 = true ∧ s.countdown - c ≤ 0
    (t.divAcc = if s.divAcc + c ≥ 256 then 0 else s.divAcc + c) ∧
    ((t.memRead 0xFF04).toNat =
      if s.divAcc + c ≥ 256 then ((s.memRead 0xFF04).toNat + 1) % 256 else (s.memRead 0xFF04).toNat) ∧
    (tick → t.countdown = period) ∧
    (¬ tick → t.countdown = if (s.memRead 0xFF07).getLsbD 2 then s.countdown - c else s.countdown) ∧
    (tick → s.memRead 0xFF05 = 255 →
      t.memRead 0xFF05 = s.memRead 0xFF06 ∧ t.memRead 0xFF0F = s.memRead 0xFF0F ||| 0x04) ∧
    (tick → s.memRead 0xFF05 ≠ 255 →
      t.memRead 0xFF05 = s.memRead 0xFF05 + 1 ∧ t.memRead 0xFF0F = s.memRead 0xFF0F) ∧
    (¬ tick → t.memRead 0xFF05 = s.memRead 0xFF05 ∧ t.memRead 0xFF0F = s.memRead 0xFF0F) ∧
    KeepsMemoryBut [0xFF04, 0xFF05, 0xFF0F] s t ∧ KeepsCpu s t ∧ KeepsPpu s t

/-! ### PPU -/

/-- PpuAdvance on its registers (60_exceptions.md R350 to R352, R354, R356, R357): line counter, LY, mode, STAT[1:0] the
mode, STAT[2] whether LY = LYC, STAT[7:3] kept; of memory only LY, STAT and IF change, and no CPU or TIMER state. Of these the
spec's own decisions, and no statement of the source, are the carried overshoot (D20), that LCDC[7] is not read (D22, log entry
6), and STAT's layout, the mode numbers and that STAT[7:3] is kept (D23, 10_state.md R48, R50). -/
def Obligations.PpuLineModeStat : Prop :=
  ∀ (s : State) (c : Nat),
    let t := s.ppuAdvance c
    t.lineCounter = CounterAfter s c ∧
    (t.memRead 0xFF44).toNat = LineAfter s c ∧
    (modeCode t.mode).toNat = ModeAfter s c ∧
    (t.memRead 0xFF41).toNat % 4 = ModeAfter s c ∧
    (t.memRead 0xFF41).getLsbD 2 = decide (LineAfter s c = (s.memRead 0xFF45).toNat) ∧
    (t.memRead 0xFF41).toNat / 8 = (s.memRead 0xFF41).toNat / 8 ∧
    KeepsMemoryBut [0xFF41, 0xFF44, 0xFF0F] s t ∧ KeepsCpu s t ∧ KeepsTimer s t

/-- What PpuAdvance requests (R353, R355, R357): source 0 when LY becomes 144; source 1 on a change into mode 0, 1 or 2
whose enable bit of STAT is set, or while LY = LYC with STAT[6] set; IF is otherwise kept. Of these the spec's own decisions,
and no statement of the source, are the carried overshoot (D20), the level-sensitive compare (D21, log entry 6), that LCDC[7] is
not read (D22, log entry 6), the enable bits 3 to 6 of STAT and the mode numbers (D23, 10_state.md R48) and that entering mode 3
requests nothing (D39). -/
def Obligations.PpuRequests : Prop :=
  ∀ (s : State) (c : Nat),
    let t := s.ppuAdvance c
    let stat := s.memRead 0xFF41
    let m := ModeAfter s c
    let vblank := decide (s.lineCounter - c ≤ 0 ∧ LineAfter s c = 144)
    let enter := decide (m ≠ (modeCode s.mode).toNat) && (decide (m = 0) && stat.getLsbD 3 ||
      decide (m = 1) && stat.getLsbD 4 || decide (m = 2) && stat.getLsbD 5)
    let compare := decide (LineAfter s c = (s.memRead 0xFF45).toNat) && stat.getLsbD 6
    ∀ i, (t.memRead 0xFF0F).getLsbD i =
      ((s.memRead 0xFF0F).getLsbD i || decide (i = 0) && vblank || decide (i = 1) && (enter || compare))

/-- When PpuAdvance renders (R352, R353, R355): the frame, in the advance in which LY becomes 144; the row of the line, on a
change into H-blank of a visible line with fewer than 144 rows rendered; lines_rendered counts the rows and starts again
when LY goes back to 0. The carried overshoot (D20) and that LCDC[7] is not read (D22, log entry 6) are the spec's own
decisions. The frame counter is the model's own (log entry 3). -/
def Obligations.PpuRenders : Prop :=
  ∀ (s : State) (c : Nat), s.linesRendered ≤ 144 →
    let t := s.ppuAdvance c
    let ended := s.lineCounter - c ≤ 0
    let rows := if ended ∧ (s.memRead 0xFF44).toNat + 1 > 153 then 0 else s.linesRendered
    let row := ModeAfter s c = 0 ∧ s.mode ≠ .hblank ∧ rows < 144
    (t.frames = if ended ∧ LineAfter s c = 144 then s.frames + 1 else s.frames) ∧
    (¬ (ended ∧ LineAfter s c = 144) → t.frameBuffer = s.frameBuffer ∧ t.sprSurface = s.sprSurface) ∧
    (ended ∧ LineAfter s c = 144 →
      t.frameBuffer = s.renderFrame.frameBuffer ∧ t.sprSurface = s.renderFrame.sprSurface) ∧
    (row → t.linesRendered = rows + 1 ∧
      t.bgSurface = (s.renderLine (LineAfter s c)).bgSurface ∧
      t.winSurface = (s.renderLine (LineAfter s c)).winSurface) ∧
    (¬ row → t.linesRendered = rows ∧ t.bgSurface = s.bgSurface ∧ t.winSurface = s.winSurface)

/-- RenderLine writes row `ly` of the two surfaces and no other row. Background (R360): column `x` shows the scrolled
256x256 plane of the table LCDC[3] selects, wrapping, through BGP. Window (R361): Transparent, but from WX - 7 on, for 160
columns clipped to the canvas, the unscrolled plane of the table LCDC[6] selects, if LCDC[5] is set and `ly` has reached
WY. -/
def Obligations.RowRendered : Prop :=
  ∀ (s : State) (ly x : Nat), s.SurfacesSized → ly < 144 → x < 160 →
    let t := s.renderLine ly
    let bgMap := if s.num 0xFF40 / 8 % 2 = 1 then 0x9C00 else 0x9800
    let winMap := if s.num 0xFF40 / 64 % 2 = 1 then 0x9C00 else 0x9800
    let shown := s.num 0xFF40 / 32 % 2 = 1 ∧ s.num 0xFF4A ≤ ly
    (t.bgSurface.cell 0 x ly).toNat =
      s.planeShade bgMap ((s.num 0xFF43 + x) % 256) ((s.num 0xFF42 + ly) % 256) ∧
    (∀ i : Nat, i < 160 → shown → (x : Int) = (s.num 0xFF4B : Int) - 7 + i →
      ∃ v, t.winSurface.cell none x ly = some v ∧ v.toNat = s.planeShade winMap i (ly - s.num 0xFF4A)) ∧
    (¬ (shown ∧ ∃ i : Nat, i < 160 ∧ (x : Int) = (s.num 0xFF4B : Int) - 7 + i) →
      t.winSurface.cell none x ly = none) ∧
    ∀ y, y ≠ ly →
      t.bgSurface.cell 0 x y = s.bgSurface.cell 0 x y ∧ t.winSurface.cell none x y = s.winSurface.cell none x y

/-- RenderFrame (R363, R364, R365): the sprite layer at a pixel is what the lowest slot that draws there puts, Transparent
where none does or sprites are off; the frame shows the sprite layer over the window over the background; the background,
the window, memory and the CPU are kept. -/
def Obligations.FrameComposed : Prop :=
  ∀ (s : State) (x y : Nat), x < 160 → y < 144 →
    let t := s.renderFrame
    let on := s.num 0xFF40 / 2 % 2 = 1
    (∀ slot v, on → slot < 40 → SpriteDraws s slot x y v → (∀ lower, lower < slot → ∀ w, ¬ SpriteDraws s lower x y w) →
      t.sprSurface.cell none x y = some v) ∧
    (¬ (on ∧ ∃ slot v, slot < 40 ∧ SpriteDraws s slot x y v) → t.sprSurface.cell none x y = none) ∧
    t.frameBuffer.cell 0 x y =
      (t.sprSurface.cell none x y).getD ((s.winSurface.cell none x y).getD (s.bgSurface.cell 0 x y)) ∧
    t.frames = s.frames + 1 ∧ t.bgSurface = s.bgSurface ∧ t.winSurface = s.winSurface ∧ KeepsMemory s t ∧ KeepsCpu s t
end

