-- ==== Sys2Proof/Laws/Decode.lean ====
section
/-! SUPPORT. The decoder: the parameter ILLEGAL agrees with the primary map, so what the decoder reads is the map's cell. -/

namespace Sys2Proof

open Machine

/-- The cell of an opcode of ILLEGAL is its row, which is not well formed (30_encoding.md R101, R103). -/
theorem decodeMap_of_mem_illegal : ∀ p ∈ Params.illegal, ∀ b1 b2 : Byte,
    decodeMap p.1 b1 b2 = p.2 ∧ p.2.wellFormed = false := by
  simp only [Params.illegal, List.forall_mem_cons]
  repeat' apply And.intro
  all_goals first | (intro b1 b2; exact ⟨rfl, rfl⟩) | (intro _ h; cases h)

/-- Under the default ILLEGAL the decoder reads the map's cell. -/
theorem decodeBytes_eq_decodeMap (b0 b1 b2 : Byte) : decodeBytes b0 b1 b2 = decodeMap b0 b1 b2 := by
  unfold decodeBytes
  split
  · next row h =>
    obtain ⟨l1, l2, e, -⟩ := List.lookup_eq_some_iff.1 h
    exact ((decodeMap_of_mem_illegal (b0, row) (by rw [e]; simp) b1 b2).1).symm
  · rfl

end Sys2Proof
end

