-- ==== Sys2Proof/Laws/State.lean ====
section
/-! SUPPORT. One lemma per field per setter of State, true by rfl: no later proof unfolds a record update. Then the same
for a register write, which names its register by `Reg`, and for the views (`reg`, `memRead`) that read a state. -/

namespace Sys2Proof.Machine

variable (s : State)

/-! ### `setF` -/

@[simp] theorem State.a_setF (v : Byte) : (s.setF v).a = s.a := rfl
@[simp] theorem State.f_setF (v : Byte) : (s.setF v).f = v := rfl
@[simp] theorem State.b_setF (v : Byte) : (s.setF v).b = s.b := rfl
@[simp] theorem State.c_setF (v : Byte) : (s.setF v).c = s.c := rfl
@[simp] theorem State.d_setF (v : Byte) : (s.setF v).d = s.d := rfl
@[simp] theorem State.e_setF (v : Byte) : (s.setF v).e = s.e := rfl
@[simp] theorem State.h_setF (v : Byte) : (s.setF v).h = s.h := rfl
@[simp] theorem State.l_setF (v : Byte) : (s.setF v).l = s.l := rfl
@[simp] theorem State.sp_setF (v : Byte) : (s.setF v).sp = s.sp := rfl
@[simp] theorem State.pc_setF (v : Byte) : (s.setF v).pc = s.pc := rfl
@[simp] theorem State.ime_setF (v : Byte) : (s.setF v).ime = s.ime := rfl
@[simp] theorem State.halted_setF (v : Byte) : (s.setF v).halted = s.halted := rfl
@[simp] theorem State.numCycles_setF (v : Byte) : (s.setF v).numCycles = s.numCycles := rfl
@[simp] theorem State.fault_setF (v : Byte) : (s.setF v).fault = s.fault := rfl
@[simp] theorem State.mem_setF (v : Byte) : (s.setF v).mem = s.mem := rfl
@[simp] theorem State.divAcc_setF (v : Byte) : (s.setF v).divAcc = s.divAcc := rfl
@[simp] theorem State.countdown_setF (v : Byte) : (s.setF v).countdown = s.countdown := rfl
@[simp] theorem State.lineCounter_setF (v : Byte) : (s.setF v).lineCounter = s.lineCounter := rfl
@[simp] theorem State.mode_setF (v : Byte) : (s.setF v).mode = s.mode := rfl
@[simp] theorem State.linesRendered_setF (v : Byte) : (s.setF v).linesRendered = s.linesRendered := rfl
@[simp] theorem State.bgSurface_setF (v : Byte) : (s.setF v).bgSurface = s.bgSurface := rfl
@[simp] theorem State.winSurface_setF (v : Byte) : (s.setF v).winSurface = s.winSurface := rfl
@[simp] theorem State.sprSurface_setF (v : Byte) : (s.setF v).sprSurface = s.sprSurface := rfl
@[simp] theorem State.frameBuffer_setF (v : Byte) : (s.setF v).frameBuffer = s.frameBuffer := rfl
@[simp] theorem State.frames_setF (v : Byte) : (s.setF v).frames = s.frames := rfl
@[simp] theorem State.reg_setF (v : Byte) (r : Reg) : (s.setF v).reg r = s.reg r := by cases r <;> rfl
@[simp] theorem State.memRead_setF (v : Byte) (k : Word) : (s.setF v).memRead k = s.memRead k := rfl

/-! ### `setSp` -/

@[simp] theorem State.a_setSp (v : Word) : (s.setSp v).a = s.a := rfl
@[simp] theorem State.f_setSp (v : Word) : (s.setSp v).f = s.f := rfl
@[simp] theorem State.b_setSp (v : Word) : (s.setSp v).b = s.b := rfl
@[simp] theorem State.c_setSp (v : Word) : (s.setSp v).c = s.c := rfl
@[simp] theorem State.d_setSp (v : Word) : (s.setSp v).d = s.d := rfl
@[simp] theorem State.e_setSp (v : Word) : (s.setSp v).e = s.e := rfl
@[simp] theorem State.h_setSp (v : Word) : (s.setSp v).h = s.h := rfl
@[simp] theorem State.l_setSp (v : Word) : (s.setSp v).l = s.l := rfl
@[simp] theorem State.sp_setSp (v : Word) : (s.setSp v).sp = v := rfl
@[simp] theorem State.pc_setSp (v : Word) : (s.setSp v).pc = s.pc := rfl
@[simp] theorem State.ime_setSp (v : Word) : (s.setSp v).ime = s.ime := rfl
@[simp] theorem State.halted_setSp (v : Word) : (s.setSp v).halted = s.halted := rfl
@[simp] theorem State.numCycles_setSp (v : Word) : (s.setSp v).numCycles = s.numCycles := rfl
@[simp] theorem State.fault_setSp (v : Word) : (s.setSp v).fault = s.fault := rfl
@[simp] theorem State.mem_setSp (v : Word) : (s.setSp v).mem = s.mem := rfl
@[simp] theorem State.divAcc_setSp (v : Word) : (s.setSp v).divAcc = s.divAcc := rfl
@[simp] theorem State.countdown_setSp (v : Word) : (s.setSp v).countdown = s.countdown := rfl
@[simp] theorem State.lineCounter_setSp (v : Word) : (s.setSp v).lineCounter = s.lineCounter := rfl
@[simp] theorem State.mode_setSp (v : Word) : (s.setSp v).mode = s.mode := rfl
@[simp] theorem State.linesRendered_setSp (v : Word) : (s.setSp v).linesRendered = s.linesRendered := rfl
@[simp] theorem State.bgSurface_setSp (v : Word) : (s.setSp v).bgSurface = s.bgSurface := rfl
@[simp] theorem State.winSurface_setSp (v : Word) : (s.setSp v).winSurface = s.winSurface := rfl
@[simp] theorem State.sprSurface_setSp (v : Word) : (s.setSp v).sprSurface = s.sprSurface := rfl
@[simp] theorem State.frameBuffer_setSp (v : Word) : (s.setSp v).frameBuffer = s.frameBuffer := rfl
@[simp] theorem State.frames_setSp (v : Word) : (s.setSp v).frames = s.frames := rfl
@[simp] theorem State.reg_setSp (v : Word) (r : Reg) : (s.setSp v).reg r = s.reg r := by cases r <;> rfl
@[simp] theorem State.memRead_setSp (v : Word) (k : Word) : (s.setSp v).memRead k = s.memRead k := rfl
@[simp] theorem State.flagZ_setSp (v : Word) : (s.setSp v).flagZ = s.flagZ := rfl
@[simp] theorem State.flagN_setSp (v : Word) : (s.setSp v).flagN = s.flagN := rfl
@[simp] theorem State.flagH_setSp (v : Word) : (s.setSp v).flagH = s.flagH := rfl
@[simp] theorem State.flagC_setSp (v : Word) : (s.setSp v).flagC = s.flagC := rfl

/-! ### `setPc` -/

@[simp] theorem State.a_setPc (v : Word) : (s.setPc v).a = s.a := rfl
@[simp] theorem State.f_setPc (v : Word) : (s.setPc v).f = s.f := rfl
@[simp] theorem State.b_setPc (v : Word) : (s.setPc v).b = s.b := rfl
@[simp] theorem State.c_setPc (v : Word) : (s.setPc v).c = s.c := rfl
@[simp] theorem State.d_setPc (v : Word) : (s.setPc v).d = s.d := rfl
@[simp] theorem State.e_setPc (v : Word) : (s.setPc v).e = s.e := rfl
@[simp] theorem State.h_setPc (v : Word) : (s.setPc v).h = s.h := rfl
@[simp] theorem State.l_setPc (v : Word) : (s.setPc v).l = s.l := rfl
@[simp] theorem State.sp_setPc (v : Word) : (s.setPc v).sp = s.sp := rfl
@[simp] theorem State.pc_setPc (v : Word) : (s.setPc v).pc = v := rfl
@[simp] theorem State.ime_setPc (v : Word) : (s.setPc v).ime = s.ime := rfl
@[simp] theorem State.halted_setPc (v : Word) : (s.setPc v).halted = s.halted := rfl
@[simp] theorem State.numCycles_setPc (v : Word) : (s.setPc v).numCycles = s.numCycles := rfl
@[simp] theorem State.fault_setPc (v : Word) : (s.setPc v).fault = s.fault := rfl
@[simp] theorem State.mem_setPc (v : Word) : (s.setPc v).mem = s.mem := rfl
@[simp] theorem State.divAcc_setPc (v : Word) : (s.setPc v).divAcc = s.divAcc := rfl
@[simp] theorem State.countdown_setPc (v : Word) : (s.setPc v).countdown = s.countdown := rfl
@[simp] theorem State.lineCounter_setPc (v : Word) : (s.setPc v).lineCounter = s.lineCounter := rfl
@[simp] theorem State.mode_setPc (v : Word) : (s.setPc v).mode = s.mode := rfl
@[simp] theorem State.linesRendered_setPc (v : Word) : (s.setPc v).linesRendered = s.linesRendered := rfl
@[simp] theorem State.bgSurface_setPc (v : Word) : (s.setPc v).bgSurface = s.bgSurface := rfl
@[simp] theorem State.winSurface_setPc (v : Word) : (s.setPc v).winSurface = s.winSurface := rfl
@[simp] theorem State.sprSurface_setPc (v : Word) : (s.setPc v).sprSurface = s.sprSurface := rfl
@[simp] theorem State.frameBuffer_setPc (v : Word) : (s.setPc v).frameBuffer = s.frameBuffer := rfl
@[simp] theorem State.frames_setPc (v : Word) : (s.setPc v).frames = s.frames := rfl
@[simp] theorem State.reg_setPc (v : Word) (r : Reg) : (s.setPc v).reg r = s.reg r := by cases r <;> rfl
@[simp] theorem State.memRead_setPc (v : Word) (k : Word) : (s.setPc v).memRead k = s.memRead k := rfl
@[simp] theorem State.flagZ_setPc (v : Word) : (s.setPc v).flagZ = s.flagZ := rfl
@[simp] theorem State.flagN_setPc (v : Word) : (s.setPc v).flagN = s.flagN := rfl
@[simp] theorem State.flagH_setPc (v : Word) : (s.setPc v).flagH = s.flagH := rfl
@[simp] theorem State.flagC_setPc (v : Word) : (s.setPc v).flagC = s.flagC := rfl

/-! ### `setIme` -/

@[simp] theorem State.a_setIme (v : Bool) : (s.setIme v).a = s.a := rfl
@[simp] theorem State.f_setIme (v : Bool) : (s.setIme v).f = s.f := rfl
@[simp] theorem State.b_setIme (v : Bool) : (s.setIme v).b = s.b := rfl
@[simp] theorem State.c_setIme (v : Bool) : (s.setIme v).c = s.c := rfl
@[simp] theorem State.d_setIme (v : Bool) : (s.setIme v).d = s.d := rfl
@[simp] theorem State.e_setIme (v : Bool) : (s.setIme v).e = s.e := rfl
@[simp] theorem State.h_setIme (v : Bool) : (s.setIme v).h = s.h := rfl
@[simp] theorem State.l_setIme (v : Bool) : (s.setIme v).l = s.l := rfl
@[simp] theorem State.sp_setIme (v : Bool) : (s.setIme v).sp = s.sp := rfl
@[simp] theorem State.pc_setIme (v : Bool) : (s.setIme v).pc = s.pc := rfl
@[simp] theorem State.ime_setIme (v : Bool) : (s.setIme v).ime = v := rfl
@[simp] theorem State.halted_setIme (v : Bool) : (s.setIme v).halted = s.halted := rfl
@[simp] theorem State.numCycles_setIme (v : Bool) : (s.setIme v).numCycles = s.numCycles := rfl
@[simp] theorem State.fault_setIme (v : Bool) : (s.setIme v).fault = s.fault := rfl
@[simp] theorem State.mem_setIme (v : Bool) : (s.setIme v).mem = s.mem := rfl
@[simp] theorem State.divAcc_setIme (v : Bool) : (s.setIme v).divAcc = s.divAcc := rfl
@[simp] theorem State.countdown_setIme (v : Bool) : (s.setIme v).countdown = s.countdown := rfl
@[simp] theorem State.lineCounter_setIme (v : Bool) : (s.setIme v).lineCounter = s.lineCounter := rfl
@[simp] theorem State.mode_setIme (v : Bool) : (s.setIme v).mode = s.mode := rfl
@[simp] theorem State.linesRendered_setIme (v : Bool) : (s.setIme v).linesRendered = s.linesRendered := rfl
@[simp] theorem State.bgSurface_setIme (v : Bool) : (s.setIme v).bgSurface = s.bgSurface := rfl
@[simp] theorem State.winSurface_setIme (v : Bool) : (s.setIme v).winSurface = s.winSurface := rfl
@[simp] theorem State.sprSurface_setIme (v : Bool) : (s.setIme v).sprSurface = s.sprSurface := rfl
@[simp] theorem State.frameBuffer_setIme (v : Bool) : (s.setIme v).frameBuffer = s.frameBuffer := rfl
@[simp] theorem State.frames_setIme (v : Bool) : (s.setIme v).frames = s.frames := rfl
@[simp] theorem State.reg_setIme (v : Bool) (r : Reg) : (s.setIme v).reg r = s.reg r := by cases r <;> rfl
@[simp] theorem State.memRead_setIme (v : Bool) (k : Word) : (s.setIme v).memRead k = s.memRead k := rfl
@[simp] theorem State.flagZ_setIme (v : Bool) : (s.setIme v).flagZ = s.flagZ := rfl
@[simp] theorem State.flagN_setIme (v : Bool) : (s.setIme v).flagN = s.flagN := rfl
@[simp] theorem State.flagH_setIme (v : Bool) : (s.setIme v).flagH = s.flagH := rfl
@[simp] theorem State.flagC_setIme (v : Bool) : (s.setIme v).flagC = s.flagC := rfl

/-! ### `setHalted` -/

@[simp] theorem State.a_setHalted (v : Bool) : (s.setHalted v).a = s.a := rfl
@[simp] theorem State.f_setHalted (v : Bool) : (s.setHalted v).f = s.f := rfl
@[simp] theorem State.b_setHalted (v : Bool) : (s.setHalted v).b = s.b := rfl
@[simp] theorem State.c_setHalted (v : Bool) : (s.setHalted v).c = s.c := rfl
@[simp] theorem State.d_setHalted (v : Bool) : (s.setHalted v).d = s.d := rfl
@[simp] theorem State.e_setHalted (v : Bool) : (s.setHalted v).e = s.e := rfl
@[simp] theorem State.h_setHalted (v : Bool) : (s.setHalted v).h = s.h := rfl
@[simp] theorem State.l_setHalted (v : Bool) : (s.setHalted v).l = s.l := rfl
@[simp] theorem State.sp_setHalted (v : Bool) : (s.setHalted v).sp = s.sp := rfl
@[simp] theorem State.pc_setHalted (v : Bool) : (s.setHalted v).pc = s.pc := rfl
@[simp] theorem State.ime_setHalted (v : Bool) : (s.setHalted v).ime = s.ime := rfl
@[simp] theorem State.halted_setHalted (v : Bool) : (s.setHalted v).halted = v := rfl
@[simp] theorem State.numCycles_setHalted (v : Bool) : (s.setHalted v).numCycles = s.numCycles := rfl
@[simp] theorem State.fault_setHalted (v : Bool) : (s.setHalted v).fault = s.fault := rfl
@[simp] theorem State.mem_setHalted (v : Bool) : (s.setHalted v).mem = s.mem := rfl
@[simp] theorem State.divAcc_setHalted (v : Bool) : (s.setHalted v).divAcc = s.divAcc := rfl
@[simp] theorem State.countdown_setHalted (v : Bool) : (s.setHalted v).countdown = s.countdown := rfl
@[simp] theorem State.lineCounter_setHalted (v : Bool) : (s.setHalted v).lineCounter = s.lineCounter := rfl
@[simp] theorem State.mode_setHalted (v : Bool) : (s.setHalted v).mode = s.mode := rfl
@[simp] theorem State.linesRendered_setHalted (v : Bool) : (s.setHalted v).linesRendered = s.linesRendered := rfl
@[simp] theorem State.bgSurface_setHalted (v : Bool) : (s.setHalted v).bgSurface = s.bgSurface := rfl
@[simp] theorem State.winSurface_setHalted (v : Bool) : (s.setHalted v).winSurface = s.winSurface := rfl
@[simp] theorem State.sprSurface_setHalted (v : Bool) : (s.setHalted v).sprSurface = s.sprSurface := rfl
@[simp] theorem State.frameBuffer_setHalted (v : Bool) : (s.setHalted v).frameBuffer = s.frameBuffer := rfl
@[simp] theorem State.frames_setHalted (v : Bool) : (s.setHalted v).frames = s.frames := rfl
@[simp] theorem State.reg_setHalted (v : Bool) (r : Reg) : (s.setHalted v).reg r = s.reg r := by cases r <;> rfl
@[simp] theorem State.memRead_setHalted (v : Bool) (k : Word) : (s.setHalted v).memRead k = s.memRead k := rfl
@[simp] theorem State.flagZ_setHalted (v : Bool) : (s.setHalted v).flagZ = s.flagZ := rfl
@[simp] theorem State.flagN_setHalted (v : Bool) : (s.setHalted v).flagN = s.flagN := rfl
@[simp] theorem State.flagH_setHalted (v : Bool) : (s.setHalted v).flagH = s.flagH := rfl
@[simp] theorem State.flagC_setHalted (v : Bool) : (s.setHalted v).flagC = s.flagC := rfl

/-! ### `setNumCycles` -/

@[simp] theorem State.a_setNumCycles (v : Nat) : (s.setNumCycles v).a = s.a := rfl
@[simp] theorem State.f_setNumCycles (v : Nat) : (s.setNumCycles v).f = s.f := rfl
@[simp] theorem State.b_setNumCycles (v : Nat) : (s.setNumCycles v).b = s.b := rfl
@[simp] theorem State.c_setNumCycles (v : Nat) : (s.setNumCycles v).c = s.c := rfl
@[simp] theorem State.d_setNumCycles (v : Nat) : (s.setNumCycles v).d = s.d := rfl
@[simp] theorem State.e_setNumCycles (v : Nat) : (s.setNumCycles v).e = s.e := rfl
@[simp] theorem State.h_setNumCycles (v : Nat) : (s.setNumCycles v).h = s.h := rfl
@[simp] theorem State.l_setNumCycles (v : Nat) : (s.setNumCycles v).l = s.l := rfl
@[simp] theorem State.sp_setNumCycles (v : Nat) : (s.setNumCycles v).sp = s.sp := rfl
@[simp] theorem State.pc_setNumCycles (v : Nat) : (s.setNumCycles v).pc = s.pc := rfl
@[simp] theorem State.ime_setNumCycles (v : Nat) : (s.setNumCycles v).ime = s.ime := rfl
@[simp] theorem State.halted_setNumCycles (v : Nat) : (s.setNumCycles v).halted = s.halted := rfl
@[simp] theorem State.numCycles_setNumCycles (v : Nat) : (s.setNumCycles v).numCycles = v := rfl
@[simp] theorem State.fault_setNumCycles (v : Nat) : (s.setNumCycles v).fault = s.fault := rfl
@[simp] theorem State.mem_setNumCycles (v : Nat) : (s.setNumCycles v).mem = s.mem := rfl
@[simp] theorem State.divAcc_setNumCycles (v : Nat) : (s.setNumCycles v).divAcc = s.divAcc := rfl
@[simp] theorem State.countdown_setNumCycles (v : Nat) : (s.setNumCycles v).countdown = s.countdown := rfl
@[simp] theorem State.lineCounter_setNumCycles (v : Nat) : (s.setNumCycles v).lineCounter = s.lineCounter := rfl
@[simp] theorem State.mode_setNumCycles (v : Nat) : (s.setNumCycles v).mode = s.mode := rfl
@[simp] theorem State.linesRendered_setNumCycles (v : Nat) : (s.setNumCycles v).linesRendered = s.linesRendered := rfl
@[simp] theorem State.bgSurface_setNumCycles (v : Nat) : (s.setNumCycles v).bgSurface = s.bgSurface := rfl
@[simp] theorem State.winSurface_setNumCycles (v : Nat) : (s.setNumCycles v).winSurface = s.winSurface := rfl
@[simp] theorem State.sprSurface_setNumCycles (v : Nat) : (s.setNumCycles v).sprSurface = s.sprSurface := rfl
@[simp] theorem State.frameBuffer_setNumCycles (v : Nat) : (s.setNumCycles v).frameBuffer = s.frameBuffer := rfl
@[simp] theorem State.frames_setNumCycles (v : Nat) : (s.setNumCycles v).frames = s.frames := rfl
@[simp] theorem State.reg_setNumCycles (v : Nat) (r : Reg) : (s.setNumCycles v).reg r = s.reg r := by cases r <;> rfl
@[simp] theorem State.memRead_setNumCycles (v : Nat) (k : Word) : (s.setNumCycles v).memRead k = s.memRead k := rfl
@[simp] theorem State.flagZ_setNumCycles (v : Nat) : (s.setNumCycles v).flagZ = s.flagZ := rfl
@[simp] theorem State.flagN_setNumCycles (v : Nat) : (s.setNumCycles v).flagN = s.flagN := rfl
@[simp] theorem State.flagH_setNumCycles (v : Nat) : (s.setNumCycles v).flagH = s.flagH := rfl
@[simp] theorem State.flagC_setNumCycles (v : Nat) : (s.setNumCycles v).flagC = s.flagC := rfl

/-! ### `setFault` -/

@[simp] theorem State.a_setFault (v : Option FaultRecord) : (s.setFault v).a = s.a := rfl
@[simp] theorem State.f_setFault (v : Option FaultRecord) : (s.setFault v).f = s.f := rfl
@[simp] theorem State.b_setFault (v : Option FaultRecord) : (s.setFault v).b = s.b := rfl
@[simp] theorem State.c_setFault (v : Option FaultRecord) : (s.setFault v).c = s.c := rfl
@[simp] theorem State.d_setFault (v : Option FaultRecord) : (s.setFault v).d = s.d := rfl
@[simp] theorem State.e_setFault (v : Option FaultRecord) : (s.setFault v).e = s.e := rfl
@[simp] theorem State.h_setFault (v : Option FaultRecord) : (s.setFault v).h = s.h := rfl
@[simp] theorem State.l_setFault (v : Option FaultRecord) : (s.setFault v).l = s.l := rfl
@[simp] theorem State.sp_setFault (v : Option FaultRecord) : (s.setFault v).sp = s.sp := rfl
@[simp] theorem State.pc_setFault (v : Option FaultRecord) : (s.setFault v).pc = s.pc := rfl
@[simp] theorem State.ime_setFault (v : Option FaultRecord) : (s.setFault v).ime = s.ime := rfl
@[simp] theorem State.halted_setFault (v : Option FaultRecord) : (s.setFault v).halted = s.halted := rfl
@[simp] theorem State.numCycles_setFault (v : Option FaultRecord) : (s.setFault v).numCycles = s.numCycles := rfl
@[simp] theorem State.fault_setFault (v : Option FaultRecord) : (s.setFault v).fault = v := rfl
@[simp] theorem State.mem_setFault (v : Option FaultRecord) : (s.setFault v).mem = s.mem := rfl
@[simp] theorem State.divAcc_setFault (v : Option FaultRecord) : (s.setFault v).divAcc = s.divAcc := rfl
@[simp] theorem State.countdown_setFault (v : Option FaultRecord) : (s.setFault v).countdown = s.countdown := rfl
@[simp] theorem State.lineCounter_setFault (v : Option FaultRecord) : (s.setFault v).lineCounter = s.lineCounter := rfl
@[simp] theorem State.mode_setFault (v : Option FaultRecord) : (s.setFault v).mode = s.mode := rfl
@[simp] theorem State.linesRendered_setFault (v : Option FaultRecord) : (s.setFault v).linesRendered = s.linesRendered := rfl
@[simp] theorem State.bgSurface_setFault (v : Option FaultRecord) : (s.setFault v).bgSurface = s.bgSurface := rfl
@[simp] theorem State.winSurface_setFault (v : Option FaultRecord) : (s.setFault v).winSurface = s.winSurface := rfl
@[simp] theorem State.sprSurface_setFault (v : Option FaultRecord) : (s.setFault v).sprSurface = s.sprSurface := rfl
@[simp] theorem State.frameBuffer_setFault (v : Option FaultRecord) : (s.setFault v).frameBuffer = s.frameBuffer := rfl
@[simp] theorem State.frames_setFault (v : Option FaultRecord) : (s.setFault v).frames = s.frames := rfl
@[simp] theorem State.reg_setFault (v : Option FaultRecord) (r : Reg) : (s.setFault v).reg r = s.reg r := by cases r <;> rfl
@[simp] theorem State.memRead_setFault (v : Option FaultRecord) (k : Word) : (s.setFault v).memRead k = s.memRead k := rfl
@[simp] theorem State.flagZ_setFault (v : Option FaultRecord) : (s.setFault v).flagZ = s.flagZ := rfl
@[simp] theorem State.flagN_setFault (v : Option FaultRecord) : (s.setFault v).flagN = s.flagN := rfl
@[simp] theorem State.flagH_setFault (v : Option FaultRecord) : (s.setFault v).flagH = s.flagH := rfl
@[simp] theorem State.flagC_setFault (v : Option FaultRecord) : (s.setFault v).flagC = s.flagC := rfl

/-! ### `setMem` -/

@[simp] theorem State.a_setMem (v : Memory) : (s.setMem v).a = s.a := rfl
@[simp] theorem State.f_setMem (v : Memory) : (s.setMem v).f = s.f := rfl
@[simp] theorem State.b_setMem (v : Memory) : (s.setMem v).b = s.b := rfl
@[simp] theorem State.c_setMem (v : Memory) : (s.setMem v).c = s.c := rfl
@[simp] theorem State.d_setMem (v : Memory) : (s.setMem v).d = s.d := rfl
@[simp] theorem State.e_setMem (v : Memory) : (s.setMem v).e = s.e := rfl
@[simp] theorem State.h_setMem (v : Memory) : (s.setMem v).h = s.h := rfl
@[simp] theorem State.l_setMem (v : Memory) : (s.setMem v).l = s.l := rfl
@[simp] theorem State.sp_setMem (v : Memory) : (s.setMem v).sp = s.sp := rfl
@[simp] theorem State.pc_setMem (v : Memory) : (s.setMem v).pc = s.pc := rfl
@[simp] theorem State.ime_setMem (v : Memory) : (s.setMem v).ime = s.ime := rfl
@[simp] theorem State.halted_setMem (v : Memory) : (s.setMem v).halted = s.halted := rfl
@[simp] theorem State.numCycles_setMem (v : Memory) : (s.setMem v).numCycles = s.numCycles := rfl
@[simp] theorem State.fault_setMem (v : Memory) : (s.setMem v).fault = s.fault := rfl
@[simp] theorem State.mem_setMem (v : Memory) : (s.setMem v).mem = v := rfl
@[simp] theorem State.divAcc_setMem (v : Memory) : (s.setMem v).divAcc = s.divAcc := rfl
@[simp] theorem State.countdown_setMem (v : Memory) : (s.setMem v).countdown = s.countdown := rfl
@[simp] theorem State.lineCounter_setMem (v : Memory) : (s.setMem v).lineCounter = s.lineCounter := rfl
@[simp] theorem State.mode_setMem (v : Memory) : (s.setMem v).mode = s.mode := rfl
@[simp] theorem State.linesRendered_setMem (v : Memory) : (s.setMem v).linesRendered = s.linesRendered := rfl
@[simp] theorem State.bgSurface_setMem (v : Memory) : (s.setMem v).bgSurface = s.bgSurface := rfl
@[simp] theorem State.winSurface_setMem (v : Memory) : (s.setMem v).winSurface = s.winSurface := rfl
@[simp] theorem State.sprSurface_setMem (v : Memory) : (s.setMem v).sprSurface = s.sprSurface := rfl
@[simp] theorem State.frameBuffer_setMem (v : Memory) : (s.setMem v).frameBuffer = s.frameBuffer := rfl
@[simp] theorem State.frames_setMem (v : Memory) : (s.setMem v).frames = s.frames := rfl
@[simp] theorem State.reg_setMem (v : Memory) (r : Reg) : (s.setMem v).reg r = s.reg r := by cases r <;> rfl
@[simp] theorem State.flagZ_setMem (v : Memory) : (s.setMem v).flagZ = s.flagZ := rfl
@[simp] theorem State.flagN_setMem (v : Memory) : (s.setMem v).flagN = s.flagN := rfl
@[simp] theorem State.flagH_setMem (v : Memory) : (s.setMem v).flagH = s.flagH := rfl
@[simp] theorem State.flagC_setMem (v : Memory) : (s.setMem v).flagC = s.flagC := rfl

/-! ### `setDivAcc` -/

@[simp] theorem State.a_setDivAcc (v : Nat) : (s.setDivAcc v).a = s.a := rfl
@[simp] theorem State.f_setDivAcc (v : Nat) : (s.setDivAcc v).f = s.f := rfl
@[simp] theorem State.b_setDivAcc (v : Nat) : (s.setDivAcc v).b = s.b := rfl
@[simp] theorem State.c_setDivAcc (v : Nat) : (s.setDivAcc v).c = s.c := rfl
@[simp] theorem State.d_setDivAcc (v : Nat) : (s.setDivAcc v).d = s.d := rfl
@[simp] theorem State.e_setDivAcc (v : Nat) : (s.setDivAcc v).e = s.e := rfl
@[simp] theorem State.h_setDivAcc (v : Nat) : (s.setDivAcc v).h = s.h := rfl
@[simp] theorem State.l_setDivAcc (v : Nat) : (s.setDivAcc v).l = s.l := rfl
@[simp] theorem State.sp_setDivAcc (v : Nat) : (s.setDivAcc v).sp = s.sp := rfl
@[simp] theorem State.pc_setDivAcc (v : Nat) : (s.setDivAcc v).pc = s.pc := rfl
@[simp] theorem State.ime_setDivAcc (v : Nat) : (s.setDivAcc v).ime = s.ime := rfl
@[simp] theorem State.halted_setDivAcc (v : Nat) : (s.setDivAcc v).halted = s.halted := rfl
@[simp] theorem State.numCycles_setDivAcc (v : Nat) : (s.setDivAcc v).numCycles = s.numCycles := rfl
@[simp] theorem State.fault_setDivAcc (v : Nat) : (s.setDivAcc v).fault = s.fault := rfl
@[simp] theorem State.mem_setDivAcc (v : Nat) : (s.setDivAcc v).mem = s.mem := rfl
@[simp] theorem State.divAcc_setDivAcc (v : Nat) : (s.setDivAcc v).divAcc = v := rfl
@[simp] theorem State.countdown_setDivAcc (v : Nat) : (s.setDivAcc v).countdown = s.countdown := rfl
@[simp] theorem State.lineCounter_setDivAcc (v : Nat) : (s.setDivAcc v).lineCounter = s.lineCounter := rfl
@[simp] theorem State.mode_setDivAcc (v : Nat) : (s.setDivAcc v).mode = s.mode := rfl
@[simp] theorem State.linesRendered_setDivAcc (v : Nat) : (s.setDivAcc v).linesRendered = s.linesRendered := rfl
@[simp] theorem State.bgSurface_setDivAcc (v : Nat) : (s.setDivAcc v).bgSurface = s.bgSurface := rfl
@[simp] theorem State.winSurface_setDivAcc (v : Nat) : (s.setDivAcc v).winSurface = s.winSurface := rfl
@[simp] theorem State.sprSurface_setDivAcc (v : Nat) : (s.setDivAcc v).sprSurface = s.sprSurface := rfl
@[simp] theorem State.frameBuffer_setDivAcc (v : Nat) : (s.setDivAcc v).frameBuffer = s.frameBuffer := rfl
@[simp] theorem State.frames_setDivAcc (v : Nat) : (s.setDivAcc v).frames = s.frames := rfl
@[simp] theorem State.reg_setDivAcc (v : Nat) (r : Reg) : (s.setDivAcc v).reg r = s.reg r := by cases r <;> rfl
@[simp] theorem State.memRead_setDivAcc (v : Nat) (k : Word) : (s.setDivAcc v).memRead k = s.memRead k := rfl
@[simp] theorem State.flagZ_setDivAcc (v : Nat) : (s.setDivAcc v).flagZ = s.flagZ := rfl
@[simp] theorem State.flagN_setDivAcc (v : Nat) : (s.setDivAcc v).flagN = s.flagN := rfl
@[simp] theorem State.flagH_setDivAcc (v : Nat) : (s.setDivAcc v).flagH = s.flagH := rfl
@[simp] theorem State.flagC_setDivAcc (v : Nat) : (s.setDivAcc v).flagC = s.flagC := rfl

/-! ### `setCountdown` -/

@[simp] theorem State.a_setCountdown (v : Int) : (s.setCountdown v).a = s.a := rfl
@[simp] theorem State.f_setCountdown (v : Int) : (s.setCountdown v).f = s.f := rfl
@[simp] theorem State.b_setCountdown (v : Int) : (s.setCountdown v).b = s.b := rfl
@[simp] theorem State.c_setCountdown (v : Int) : (s.setCountdown v).c = s.c := rfl
@[simp] theorem State.d_setCountdown (v : Int) : (s.setCountdown v).d = s.d := rfl
@[simp] theorem State.e_setCountdown (v : Int) : (s.setCountdown v).e = s.e := rfl
@[simp] theorem State.h_setCountdown (v : Int) : (s.setCountdown v).h = s.h := rfl
@[simp] theorem State.l_setCountdown (v : Int) : (s.setCountdown v).l = s.l := rfl
@[simp] theorem State.sp_setCountdown (v : Int) : (s.setCountdown v).sp = s.sp := rfl
@[simp] theorem State.pc_setCountdown (v : Int) : (s.setCountdown v).pc = s.pc := rfl
@[simp] theorem State.ime_setCountdown (v : Int) : (s.setCountdown v).ime = s.ime := rfl
@[simp] theorem State.halted_setCountdown (v : Int) : (s.setCountdown v).halted = s.halted := rfl
@[simp] theorem State.numCycles_setCountdown (v : Int) : (s.setCountdown v).numCycles = s.numCycles := rfl
@[simp] theorem State.fault_setCountdown (v : Int) : (s.setCountdown v).fault = s.fault := rfl
@[simp] theorem State.mem_setCountdown (v : Int) : (s.setCountdown v).mem = s.mem := rfl
@[simp] theorem State.divAcc_setCountdown (v : Int) : (s.setCountdown v).divAcc = s.divAcc := rfl
@[simp] theorem State.countdown_setCountdown (v : Int) : (s.setCountdown v).countdown = v := rfl
@[simp] theorem State.lineCounter_setCountdown (v : Int) : (s.setCountdown v).lineCounter = s.lineCounter := rfl
@[simp] theorem State.mode_setCountdown (v : Int) : (s.setCountdown v).mode = s.mode := rfl
@[simp] theorem State.linesRendered_setCountdown (v : Int) : (s.setCountdown v).linesRendered = s.linesRendered := rfl
@[simp] theorem State.bgSurface_setCountdown (v : Int) : (s.setCountdown v).bgSurface = s.bgSurface := rfl
@[simp] theorem State.winSurface_setCountdown (v : Int) : (s.setCountdown v).winSurface = s.winSurface := rfl
@[simp] theorem State.sprSurface_setCountdown (v : Int) : (s.setCountdown v).sprSurface = s.sprSurface := rfl
@[simp] theorem State.frameBuffer_setCountdown (v : Int) : (s.setCountdown v).frameBuffer = s.frameBuffer := rfl
@[simp] theorem State.frames_setCountdown (v : Int) : (s.setCountdown v).frames = s.frames := rfl
@[simp] theorem State.reg_setCountdown (v : Int) (r : Reg) : (s.setCountdown v).reg r = s.reg r := by cases r <;> rfl
@[simp] theorem State.memRead_setCountdown (v : Int) (k : Word) : (s.setCountdown v).memRead k = s.memRead k := rfl
@[simp] theorem State.flagZ_setCountdown (v : Int) : (s.setCountdown v).flagZ = s.flagZ := rfl
@[simp] theorem State.flagN_setCountdown (v : Int) : (s.setCountdown v).flagN = s.flagN := rfl
@[simp] theorem State.flagH_setCountdown (v : Int) : (s.setCountdown v).flagH = s.flagH := rfl
@[simp] theorem State.flagC_setCountdown (v : Int) : (s.setCountdown v).flagC = s.flagC := rfl

/-! ### `setLineCounter` -/

@[simp] theorem State.a_setLineCounter (v : Int) : (s.setLineCounter v).a = s.a := rfl
@[simp] theorem State.f_setLineCounter (v : Int) : (s.setLineCounter v).f = s.f := rfl
@[simp] theorem State.b_setLineCounter (v : Int) : (s.setLineCounter v).b = s.b := rfl
@[simp] theorem State.c_setLineCounter (v : Int) : (s.setLineCounter v).c = s.c := rfl
@[simp] theorem State.d_setLineCounter (v : Int) : (s.setLineCounter v).d = s.d := rfl
@[simp] theorem State.e_setLineCounter (v : Int) : (s.setLineCounter v).e = s.e := rfl
@[simp] theorem State.h_setLineCounter (v : Int) : (s.setLineCounter v).h = s.h := rfl
@[simp] theorem State.l_setLineCounter (v : Int) : (s.setLineCounter v).l = s.l := rfl
@[simp] theorem State.sp_setLineCounter (v : Int) : (s.setLineCounter v).sp = s.sp := rfl
@[simp] theorem State.pc_setLineCounter (v : Int) : (s.setLineCounter v).pc = s.pc := rfl
@[simp] theorem State.ime_setLineCounter (v : Int) : (s.setLineCounter v).ime = s.ime := rfl
@[simp] theorem State.halted_setLineCounter (v : Int) : (s.setLineCounter v).halted = s.halted := rfl
@[simp] theorem State.numCycles_setLineCounter (v : Int) : (s.setLineCounter v).numCycles = s.numCycles := rfl
@[simp] theorem State.fault_setLineCounter (v : Int) : (s.setLineCounter v).fault = s.fault := rfl
@[simp] theorem State.mem_setLineCounter (v : Int) : (s.setLineCounter v).mem = s.mem := rfl
@[simp] theorem State.divAcc_setLineCounter (v : Int) : (s.setLineCounter v).divAcc = s.divAcc := rfl
@[simp] theorem State.countdown_setLineCounter (v : Int) : (s.setLineCounter v).countdown = s.countdown := rfl
@[simp] theorem State.lineCounter_setLineCounter (v : Int) : (s.setLineCounter v).lineCounter = v := rfl
@[simp] theorem State.mode_setLineCounter (v : Int) : (s.setLineCounter v).mode = s.mode := rfl
@[simp] theorem State.linesRendered_setLineCounter (v : Int) : (s.setLineCounter v).linesRendered = s.linesRendered := rfl
@[simp] theorem State.bgSurface_setLineCounter (v : Int) : (s.setLineCounter v).bgSurface = s.bgSurface := rfl
@[simp] theorem State.winSurface_setLineCounter (v : Int) : (s.setLineCounter v).winSurface = s.winSurface := rfl
@[simp] theorem State.sprSurface_setLineCounter (v : Int) : (s.setLineCounter v).sprSurface = s.sprSurface := rfl
@[simp] theorem State.frameBuffer_setLineCounter (v : Int) : (s.setLineCounter v).frameBuffer = s.frameBuffer := rfl
@[simp] theorem State.frames_setLineCounter (v : Int) : (s.setLineCounter v).frames = s.frames := rfl
@[simp] theorem State.reg_setLineCounter (v : Int) (r : Reg) : (s.setLineCounter v).reg r = s.reg r := by cases r <;> rfl
@[simp] theorem State.memRead_setLineCounter (v : Int) (k : Word) : (s.setLineCounter v).memRead k = s.memRead k := rfl
@[simp] theorem State.flagZ_setLineCounter (v : Int) : (s.setLineCounter v).flagZ = s.flagZ := rfl
@[simp] theorem State.flagN_setLineCounter (v : Int) : (s.setLineCounter v).flagN = s.flagN := rfl
@[simp] theorem State.flagH_setLineCounter (v : Int) : (s.setLineCounter v).flagH = s.flagH := rfl
@[simp] theorem State.flagC_setLineCounter (v : Int) : (s.setLineCounter v).flagC = s.flagC := rfl

/-! ### `setMode` -/

@[simp] theorem State.a_setMode (v : LcdMode) : (s.setMode v).a = s.a := rfl
@[simp] theorem State.f_setMode (v : LcdMode) : (s.setMode v).f = s.f := rfl
@[simp] theorem State.b_setMode (v : LcdMode) : (s.setMode v).b = s.b := rfl
@[simp] theorem State.c_setMode (v : LcdMode) : (s.setMode v).c = s.c := rfl
@[simp] theorem State.d_setMode (v : LcdMode) : (s.setMode v).d = s.d := rfl
@[simp] theorem State.e_setMode (v : LcdMode) : (s.setMode v).e = s.e := rfl
@[simp] theorem State.h_setMode (v : LcdMode) : (s.setMode v).h = s.h := rfl
@[simp] theorem State.l_setMode (v : LcdMode) : (s.setMode v).l = s.l := rfl
@[simp] theorem State.sp_setMode (v : LcdMode) : (s.setMode v).sp = s.sp := rfl
@[simp] theorem State.pc_setMode (v : LcdMode) : (s.setMode v).pc = s.pc := rfl
@[simp] theorem State.ime_setMode (v : LcdMode) : (s.setMode v).ime = s.ime := rfl
@[simp] theorem State.halted_setMode (v : LcdMode) : (s.setMode v).halted = s.halted := rfl
@[simp] theorem State.numCycles_setMode (v : LcdMode) : (s.setMode v).numCycles = s.numCycles := rfl
@[simp] theorem State.fault_setMode (v : LcdMode) : (s.setMode v).fault = s.fault := rfl
@[simp] theorem State.mem_setMode (v : LcdMode) : (s.setMode v).mem = s.mem := rfl
@[simp] theorem State.divAcc_setMode (v : LcdMode) : (s.setMode v).divAcc = s.divAcc := rfl
@[simp] theorem State.countdown_setMode (v : LcdMode) : (s.setMode v).countdown = s.countdown := rfl
@[simp] theorem State.lineCounter_setMode (v : LcdMode) : (s.setMode v).lineCounter = s.lineCounter := rfl
@[simp] theorem State.mode_setMode (v : LcdMode) : (s.setMode v).mode = v := rfl
@[simp] theorem State.linesRendered_setMode (v : LcdMode) : (s.setMode v).linesRendered = s.linesRendered := rfl
@[simp] theorem State.bgSurface_setMode (v : LcdMode) : (s.setMode v).bgSurface = s.bgSurface := rfl
@[simp] theorem State.winSurface_setMode (v : LcdMode) : (s.setMode v).winSurface = s.winSurface := rfl
@[simp] theorem State.sprSurface_setMode (v : LcdMode) : (s.setMode v).sprSurface = s.sprSurface := rfl
@[simp] theorem State.frameBuffer_setMode (v : LcdMode) : (s.setMode v).frameBuffer = s.frameBuffer := rfl
@[simp] theorem State.frames_setMode (v : LcdMode) : (s.setMode v).frames = s.frames := rfl
@[simp] theorem State.reg_setMode (v : LcdMode) (r : Reg) : (s.setMode v).reg r = s.reg r := by cases r <;> rfl
@[simp] theorem State.memRead_setMode (v : LcdMode) (k : Word) : (s.setMode v).memRead k = s.memRead k := rfl
@[simp] theorem State.flagZ_setMode (v : LcdMode) : (s.setMode v).flagZ = s.flagZ := rfl
@[simp] theorem State.flagN_setMode (v : LcdMode) : (s.setMode v).flagN = s.flagN := rfl
@[simp] theorem State.flagH_setMode (v : LcdMode) : (s.setMode v).flagH = s.flagH := rfl
@[simp] theorem State.flagC_setMode (v : LcdMode) : (s.setMode v).flagC = s.flagC := rfl

/-! ### `setLinesRendered` -/

@[simp] theorem State.a_setLinesRendered (v : Nat) : (s.setLinesRendered v).a = s.a := rfl
@[simp] theorem State.f_setLinesRendered (v : Nat) : (s.setLinesRendered v).f = s.f := rfl
@[simp] theorem State.b_setLinesRendered (v : Nat) : (s.setLinesRendered v).b = s.b := rfl
@[simp] theorem State.c_setLinesRendered (v : Nat) : (s.setLinesRendered v).c = s.c := rfl
@[simp] theorem State.d_setLinesRendered (v : Nat) : (s.setLinesRendered v).d = s.d := rfl
@[simp] theorem State.e_setLinesRendered (v : Nat) : (s.setLinesRendered v).e = s.e := rfl
@[simp] theorem State.h_setLinesRendered (v : Nat) : (s.setLinesRendered v).h = s.h := rfl
@[simp] theorem State.l_setLinesRendered (v : Nat) : (s.setLinesRendered v).l = s.l := rfl
@[simp] theorem State.sp_setLinesRendered (v : Nat) : (s.setLinesRendered v).sp = s.sp := rfl
@[simp] theorem State.pc_setLinesRendered (v : Nat) : (s.setLinesRendered v).pc = s.pc := rfl
@[simp] theorem State.ime_setLinesRendered (v : Nat) : (s.setLinesRendered v).ime = s.ime := rfl
@[simp] theorem State.halted_setLinesRendered (v : Nat) : (s.setLinesRendered v).halted = s.halted := rfl
@[simp] theorem State.numCycles_setLinesRendered (v : Nat) : (s.setLinesRendered v).numCycles = s.numCycles := rfl
@[simp] theorem State.fault_setLinesRendered (v : Nat) : (s.setLinesRendered v).fault = s.fault := rfl
@[simp] theorem State.mem_setLinesRendered (v : Nat) : (s.setLinesRendered v).mem = s.mem := rfl
@[simp] theorem State.divAcc_setLinesRendered (v : Nat) : (s.setLinesRendered v).divAcc = s.divAcc := rfl
@[simp] theorem State.countdown_setLinesRendered (v : Nat) : (s.setLinesRendered v).countdown = s.countdown := rfl
@[simp] theorem State.lineCounter_setLinesRendered (v : Nat) : (s.setLinesRendered v).lineCounter = s.lineCounter := rfl
@[simp] theorem State.mode_setLinesRendered (v : Nat) : (s.setLinesRendered v).mode = s.mode := rfl
@[simp] theorem State.linesRendered_setLinesRendered (v : Nat) : (s.setLinesRendered v).linesRendered = v := rfl
@[simp] theorem State.bgSurface_setLinesRendered (v : Nat) : (s.setLinesRendered v).bgSurface = s.bgSurface := rfl
@[simp] theorem State.winSurface_setLinesRendered (v : Nat) : (s.setLinesRendered v).winSurface = s.winSurface := rfl
@[simp] theorem State.sprSurface_setLinesRendered (v : Nat) : (s.setLinesRendered v).sprSurface = s.sprSurface := rfl
@[simp] theorem State.frameBuffer_setLinesRendered (v : Nat) : (s.setLinesRendered v).frameBuffer = s.frameBuffer := rfl
@[simp] theorem State.frames_setLinesRendered (v : Nat) : (s.setLinesRendered v).frames = s.frames := rfl
@[simp] theorem State.reg_setLinesRendered (v : Nat) (r : Reg) : (s.setLinesRendered v).reg r = s.reg r := by cases r <;> rfl
@[simp] theorem State.memRead_setLinesRendered (v : Nat) (k : Word) : (s.setLinesRendered v).memRead k = s.memRead k := rfl
@[simp] theorem State.flagZ_setLinesRendered (v : Nat) : (s.setLinesRendered v).flagZ = s.flagZ := rfl
@[simp] theorem State.flagN_setLinesRendered (v : Nat) : (s.setLinesRendered v).flagN = s.flagN := rfl
@[simp] theorem State.flagH_setLinesRendered (v : Nat) : (s.setLinesRendered v).flagH = s.flagH := rfl
@[simp] theorem State.flagC_setLinesRendered (v : Nat) : (s.setLinesRendered v).flagC = s.flagC := rfl

/-! ### `setBgSurface` -/

@[simp] theorem State.a_setBgSurface (v : Surface Shade) : (s.setBgSurface v).a = s.a := rfl
@[simp] theorem State.f_setBgSurface (v : Surface Shade) : (s.setBgSurface v).f = s.f := rfl
@[simp] theorem State.b_setBgSurface (v : Surface Shade) : (s.setBgSurface v).b = s.b := rfl
@[simp] theorem State.c_setBgSurface (v : Surface Shade) : (s.setBgSurface v).c = s.c := rfl
@[simp] theorem State.d_setBgSurface (v : Surface Shade) : (s.setBgSurface v).d = s.d := rfl
@[simp] theorem State.e_setBgSurface (v : Surface Shade) : (s.setBgSurface v).e = s.e := rfl
@[simp] theorem State.h_setBgSurface (v : Surface Shade) : (s.setBgSurface v).h = s.h := rfl
@[simp] theorem State.l_setBgSurface (v : Surface Shade) : (s.setBgSurface v).l = s.l := rfl
@[simp] theorem State.sp_setBgSurface (v : Surface Shade) : (s.setBgSurface v).sp = s.sp := rfl
@[simp] theorem State.pc_setBgSurface (v : Surface Shade) : (s.setBgSurface v).pc = s.pc := rfl
@[simp] theorem State.ime_setBgSurface (v : Surface Shade) : (s.setBgSurface v).ime = s.ime := rfl
@[simp] theorem State.halted_setBgSurface (v : Surface Shade) : (s.setBgSurface v).halted = s.halted := rfl
@[simp] theorem State.numCycles_setBgSurface (v : Surface Shade) : (s.setBgSurface v).numCycles = s.numCycles := rfl
@[simp] theorem State.fault_setBgSurface (v : Surface Shade) : (s.setBgSurface v).fault = s.fault := rfl
@[simp] theorem State.mem_setBgSurface (v : Surface Shade) : (s.setBgSurface v).mem = s.mem := rfl
@[simp] theorem State.divAcc_setBgSurface (v : Surface Shade) : (s.setBgSurface v).divAcc = s.divAcc := rfl
@[simp] theorem State.countdown_setBgSurface (v : Surface Shade) : (s.setBgSurface v).countdown = s.countdown := rfl
@[simp] theorem State.lineCounter_setBgSurface (v : Surface Shade) : (s.setBgSurface v).lineCounter = s.lineCounter := rfl
@[simp] theorem State.mode_setBgSurface (v : Surface Shade) : (s.setBgSurface v).mode = s.mode := rfl
@[simp] theorem State.linesRendered_setBgSurface (v : Surface Shade) : (s.setBgSurface v).linesRendered = s.linesRendered := rfl
@[simp] theorem State.bgSurface_setBgSurface (v : Surface Shade) : (s.setBgSurface v).bgSurface = v := rfl
@[simp] theorem State.winSurface_setBgSurface (v : Surface Shade) : (s.setBgSurface v).winSurface = s.winSurface := rfl
@[simp] theorem State.sprSurface_setBgSurface (v : Surface Shade) : (s.setBgSurface v).sprSurface = s.sprSurface := rfl
@[simp] theorem State.frameBuffer_setBgSurface (v : Surface Shade) : (s.setBgSurface v).frameBuffer = s.frameBuffer := rfl
@[simp] theorem State.frames_setBgSurface (v : Surface Shade) : (s.setBgSurface v).frames = s.frames := rfl
@[simp] theorem State.reg_setBgSurface (v : Surface Shade) (r : Reg) : (s.setBgSurface v).reg r = s.reg r := by cases r <;> rfl
@[simp] theorem State.memRead_setBgSurface (v : Surface Shade) (k : Word) : (s.setBgSurface v).memRead k = s.memRead k := rfl
@[simp] theorem State.flagZ_setBgSurface (v : Surface Shade) : (s.setBgSurface v).flagZ = s.flagZ := rfl
@[simp] theorem State.flagN_setBgSurface (v : Surface Shade) : (s.setBgSurface v).flagN = s.flagN := rfl
@[simp] theorem State.flagH_setBgSurface (v : Surface Shade) : (s.setBgSurface v).flagH = s.flagH := rfl
@[simp] theorem State.flagC_setBgSurface (v : Surface Shade) : (s.setBgSurface v).flagC = s.flagC := rfl

/-! ### `setWinSurface` -/

@[simp] theorem State.a_setWinSurface (v : Surface (Option Shade)) : (s.setWinSurface v).a = s.a := rfl
@[simp] theorem State.f_setWinSurface (v : Surface (Option Shade)) : (s.setWinSurface v).f = s.f := rfl
@[simp] theorem State.b_setWinSurface (v : Surface (Option Shade)) : (s.setWinSurface v).b = s.b := rfl
@[simp] theorem State.c_setWinSurface (v : Surface (Option Shade)) : (s.setWinSurface v).c = s.c := rfl
@[simp] theorem State.d_setWinSurface (v : Surface (Option Shade)) : (s.setWinSurface v).d = s.d := rfl
@[simp] theorem State.e_setWinSurface (v : Surface (Option Shade)) : (s.setWinSurface v).e = s.e := rfl
@[simp] theorem State.h_setWinSurface (v : Surface (Option Shade)) : (s.setWinSurface v).h = s.h := rfl
@[simp] theorem State.l_setWinSurface (v : Surface (Option Shade)) : (s.setWinSurface v).l = s.l := rfl
@[simp] theorem State.sp_setWinSurface (v : Surface (Option Shade)) : (s.setWinSurface v).sp = s.sp := rfl
@[simp] theorem State.pc_setWinSurface (v : Surface (Option Shade)) : (s.setWinSurface v).pc = s.pc := rfl
@[simp] theorem State.ime_setWinSurface (v : Surface (Option Shade)) : (s.setWinSurface v).ime = s.ime := rfl
@[simp] theorem State.halted_setWinSurface (v : Surface (Option Shade)) : (s.setWinSurface v).halted = s.halted := rfl
@[simp] theorem State.numCycles_setWinSurface (v : Surface (Option Shade)) : (s.setWinSurface v).numCycles = s.numCycles := rfl
@[simp] theorem State.fault_setWinSurface (v : Surface (Option Shade)) : (s.setWinSurface v).fault = s.fault := rfl
@[simp] theorem State.mem_setWinSurface (v : Surface (Option Shade)) : (s.setWinSurface v).mem = s.mem := rfl
@[simp] theorem State.divAcc_setWinSurface (v : Surface (Option Shade)) : (s.setWinSurface v).divAcc = s.divAcc := rfl
@[simp] theorem State.countdown_setWinSurface (v : Surface (Option Shade)) : (s.setWinSurface v).countdown = s.countdown := rfl
@[simp] theorem State.lineCounter_setWinSurface (v : Surface (Option Shade)) : (s.setWinSurface v).lineCounter = s.lineCounter := rfl
@[simp] theorem State.mode_setWinSurface (v : Surface (Option Shade)) : (s.setWinSurface v).mode = s.mode := rfl
@[simp] theorem State.linesRendered_setWinSurface (v : Surface (Option Shade)) : (s.setWinSurface v).linesRendered = s.linesRendered := rfl
@[simp] theorem State.bgSurface_setWinSurface (v : Surface (Option Shade)) : (s.setWinSurface v).bgSurface = s.bgSurface := rfl
@[simp] theorem State.winSurface_setWinSurface (v : Surface (Option Shade)) : (s.setWinSurface v).winSurface = v := rfl
@[simp] theorem State.sprSurface_setWinSurface (v : Surface (Option Shade)) : (s.setWinSurface v).sprSurface = s.sprSurface := rfl
@[simp] theorem State.frameBuffer_setWinSurface (v : Surface (Option Shade)) : (s.setWinSurface v).frameBuffer = s.frameBuffer := rfl
@[simp] theorem State.frames_setWinSurface (v : Surface (Option Shade)) : (s.setWinSurface v).frames = s.frames := rfl
@[simp] theorem State.reg_setWinSurface (v : Surface (Option Shade)) (r : Reg) : (s.setWinSurface v).reg r = s.reg r := by cases r <;> rfl
@[simp] theorem State.memRead_setWinSurface (v : Surface (Option Shade)) (k : Word) : (s.setWinSurface v).memRead k = s.memRead k := rfl
@[simp] theorem State.flagZ_setWinSurface (v : Surface (Option Shade)) : (s.setWinSurface v).flagZ = s.flagZ := rfl
@[simp] theorem State.flagN_setWinSurface (v : Surface (Option Shade)) : (s.setWinSurface v).flagN = s.flagN := rfl
@[simp] theorem State.flagH_setWinSurface (v : Surface (Option Shade)) : (s.setWinSurface v).flagH = s.flagH := rfl
@[simp] theorem State.flagC_setWinSurface (v : Surface (Option Shade)) : (s.setWinSurface v).flagC = s.flagC := rfl

/-! ### `setSprSurface` -/

@[simp] theorem State.a_setSprSurface (v : Surface (Option Shade)) : (s.setSprSurface v).a = s.a := rfl
@[simp] theorem State.f_setSprSurface (v : Surface (Option Shade)) : (s.setSprSurface v).f = s.f := rfl
@[simp] theorem State.b_setSprSurface (v : Surface (Option Shade)) : (s.setSprSurface v).b = s.b := rfl
@[simp] theorem State.c_setSprSurface (v : Surface (Option Shade)) : (s.setSprSurface v).c = s.c := rfl
@[simp] theorem State.d_setSprSurface (v : Surface (Option Shade)) : (s.setSprSurface v).d = s.d := rfl
@[simp] theorem State.e_setSprSurface (v : Surface (Option Shade)) : (s.setSprSurface v).e = s.e := rfl
@[simp] theorem State.h_setSprSurface (v : Surface (Option Shade)) : (s.setSprSurface v).h = s.h := rfl
@[simp] theorem State.l_setSprSurface (v : Surface (Option Shade)) : (s.setSprSurface v).l = s.l := rfl
@[simp] theorem State.sp_setSprSurface (v : Surface (Option Shade)) : (s.setSprSurface v).sp = s.sp := rfl
@[simp] theorem State.pc_setSprSurface (v : Surface (Option Shade)) : (s.setSprSurface v).pc = s.pc := rfl
@[simp] theorem State.ime_setSprSurface (v : Surface (Option Shade)) : (s.setSprSurface v).ime = s.ime := rfl
@[simp] theorem State.halted_setSprSurface (v : Surface (Option Shade)) : (s.setSprSurface v).halted = s.halted := rfl
@[simp] theorem State.numCycles_setSprSurface (v : Surface (Option Shade)) : (s.setSprSurface v).numCycles = s.numCycles := rfl
@[simp] theorem State.fault_setSprSurface (v : Surface (Option Shade)) : (s.setSprSurface v).fault = s.fault := rfl
@[simp] theorem State.mem_setSprSurface (v : Surface (Option Shade)) : (s.setSprSurface v).mem = s.mem := rfl
@[simp] theorem State.divAcc_setSprSurface (v : Surface (Option Shade)) : (s.setSprSurface v).divAcc = s.divAcc := rfl
@[simp] theorem State.countdown_setSprSurface (v : Surface (Option Shade)) : (s.setSprSurface v).countdown = s.countdown := rfl
@[simp] theorem State.lineCounter_setSprSurface (v : Surface (Option Shade)) : (s.setSprSurface v).lineCounter = s.lineCounter := rfl
@[simp] theorem State.mode_setSprSurface (v : Surface (Option Shade)) : (s.setSprSurface v).mode = s.mode := rfl
@[simp] theorem State.linesRendered_setSprSurface (v : Surface (Option Shade)) : (s.setSprSurface v).linesRendered = s.linesRendered := rfl
@[simp] theorem State.bgSurface_setSprSurface (v : Surface (Option Shade)) : (s.setSprSurface v).bgSurface = s.bgSurface := rfl
@[simp] theorem State.winSurface_setSprSurface (v : Surface (Option Shade)) : (s.setSprSurface v).winSurface = s.winSurface := rfl
@[simp] theorem State.sprSurface_setSprSurface (v : Surface (Option Shade)) : (s.setSprSurface v).sprSurface = v := rfl
@[simp] theorem State.frameBuffer_setSprSurface (v : Surface (Option Shade)) : (s.setSprSurface v).frameBuffer = s.frameBuffer := rfl
@[simp] theorem State.frames_setSprSurface (v : Surface (Option Shade)) : (s.setSprSurface v).frames = s.frames := rfl
@[simp] theorem State.reg_setSprSurface (v : Surface (Option Shade)) (r : Reg) : (s.setSprSurface v).reg r = s.reg r := by cases r <;> rfl
@[simp] theorem State.memRead_setSprSurface (v : Surface (Option Shade)) (k : Word) : (s.setSprSurface v).memRead k = s.memRead k := rfl
@[simp] theorem State.flagZ_setSprSurface (v : Surface (Option Shade)) : (s.setSprSurface v).flagZ = s.flagZ := rfl
@[simp] theorem State.flagN_setSprSurface (v : Surface (Option Shade)) : (s.setSprSurface v).flagN = s.flagN := rfl
@[simp] theorem State.flagH_setSprSurface (v : Surface (Option Shade)) : (s.setSprSurface v).flagH = s.flagH := rfl
@[simp] theorem State.flagC_setSprSurface (v : Surface (Option Shade)) : (s.setSprSurface v).flagC = s.flagC := rfl

/-! ### `setFrameBuffer` -/

@[simp] theorem State.a_setFrameBuffer (v : Surface Shade) : (s.setFrameBuffer v).a = s.a := rfl
@[simp] theorem State.f_setFrameBuffer (v : Surface Shade) : (s.setFrameBuffer v).f = s.f := rfl
@[simp] theorem State.b_setFrameBuffer (v : Surface Shade) : (s.setFrameBuffer v).b = s.b := rfl
@[simp] theorem State.c_setFrameBuffer (v : Surface Shade) : (s.setFrameBuffer v).c = s.c := rfl
@[simp] theorem State.d_setFrameBuffer (v : Surface Shade) : (s.setFrameBuffer v).d = s.d := rfl
@[simp] theorem State.e_setFrameBuffer (v : Surface Shade) : (s.setFrameBuffer v).e = s.e := rfl
@[simp] theorem State.h_setFrameBuffer (v : Surface Shade) : (s.setFrameBuffer v).h = s.h := rfl
@[simp] theorem State.l_setFrameBuffer (v : Surface Shade) : (s.setFrameBuffer v).l = s.l := rfl
@[simp] theorem State.sp_setFrameBuffer (v : Surface Shade) : (s.setFrameBuffer v).sp = s.sp := rfl
@[simp] theorem State.pc_setFrameBuffer (v : Surface Shade) : (s.setFrameBuffer v).pc = s.pc := rfl
@[simp] theorem State.ime_setFrameBuffer (v : Surface Shade) : (s.setFrameBuffer v).ime = s.ime := rfl
@[simp] theorem State.halted_setFrameBuffer (v : Surface Shade) : (s.setFrameBuffer v).halted = s.halted := rfl
@[simp] theorem State.numCycles_setFrameBuffer (v : Surface Shade) : (s.setFrameBuffer v).numCycles = s.numCycles := rfl
@[simp] theorem State.fault_setFrameBuffer (v : Surface Shade) : (s.setFrameBuffer v).fault = s.fault := rfl
@[simp] theorem State.mem_setFrameBuffer (v : Surface Shade) : (s.setFrameBuffer v).mem = s.mem := rfl
@[simp] theorem State.divAcc_setFrameBuffer (v : Surface Shade) : (s.setFrameBuffer v).divAcc = s.divAcc := rfl
@[simp] theorem State.countdown_setFrameBuffer (v : Surface Shade) : (s.setFrameBuffer v).countdown = s.countdown := rfl
@[simp] theorem State.lineCounter_setFrameBuffer (v : Surface Shade) : (s.setFrameBuffer v).lineCounter = s.lineCounter := rfl
@[simp] theorem State.mode_setFrameBuffer (v : Surface Shade) : (s.setFrameBuffer v).mode = s.mode := rfl
@[simp] theorem State.linesRendered_setFrameBuffer (v : Surface Shade) : (s.setFrameBuffer v).linesRendered = s.linesRendered := rfl
@[simp] theorem State.bgSurface_setFrameBuffer (v : Surface Shade) : (s.setFrameBuffer v).bgSurface = s.bgSurface := rfl
@[simp] theorem State.winSurface_setFrameBuffer (v : Surface Shade) : (s.setFrameBuffer v).winSurface = s.winSurface := rfl
@[simp] theorem State.sprSurface_setFrameBuffer (v : Surface Shade) : (s.setFrameBuffer v).sprSurface = s.sprSurface := rfl
@[simp] theorem State.frameBuffer_setFrameBuffer (v : Surface Shade) : (s.setFrameBuffer v).frameBuffer = v := rfl
@[simp] theorem State.frames_setFrameBuffer (v : Surface Shade) : (s.setFrameBuffer v).frames = s.frames := rfl
@[simp] theorem State.reg_setFrameBuffer (v : Surface Shade) (r : Reg) : (s.setFrameBuffer v).reg r = s.reg r := by cases r <;> rfl
@[simp] theorem State.memRead_setFrameBuffer (v : Surface Shade) (k : Word) : (s.setFrameBuffer v).memRead k = s.memRead k := rfl
@[simp] theorem State.flagZ_setFrameBuffer (v : Surface Shade) : (s.setFrameBuffer v).flagZ = s.flagZ := rfl
@[simp] theorem State.flagN_setFrameBuffer (v : Surface Shade) : (s.setFrameBuffer v).flagN = s.flagN := rfl
@[simp] theorem State.flagH_setFrameBuffer (v : Surface Shade) : (s.setFrameBuffer v).flagH = s.flagH := rfl
@[simp] theorem State.flagC_setFrameBuffer (v : Surface Shade) : (s.setFrameBuffer v).flagC = s.flagC := rfl

/-! ### `setFrames` -/

@[simp] theorem State.a_setFrames (v : Nat) : (s.setFrames v).a = s.a := rfl
@[simp] theorem State.f_setFrames (v : Nat) : (s.setFrames v).f = s.f := rfl
@[simp] theorem State.b_setFrames (v : Nat) : (s.setFrames v).b = s.b := rfl
@[simp] theorem State.c_setFrames (v : Nat) : (s.setFrames v).c = s.c := rfl
@[simp] theorem State.d_setFrames (v : Nat) : (s.setFrames v).d = s.d := rfl
@[simp] theorem State.e_setFrames (v : Nat) : (s.setFrames v).e = s.e := rfl
@[simp] theorem State.h_setFrames (v : Nat) : (s.setFrames v).h = s.h := rfl
@[simp] theorem State.l_setFrames (v : Nat) : (s.setFrames v).l = s.l := rfl
@[simp] theorem State.sp_setFrames (v : Nat) : (s.setFrames v).sp = s.sp := rfl
@[simp] theorem State.pc_setFrames (v : Nat) : (s.setFrames v).pc = s.pc := rfl
@[simp] theorem State.ime_setFrames (v : Nat) : (s.setFrames v).ime = s.ime := rfl
@[simp] theorem State.halted_setFrames (v : Nat) : (s.setFrames v).halted = s.halted := rfl
@[simp] theorem State.numCycles_setFrames (v : Nat) : (s.setFrames v).numCycles = s.numCycles := rfl
@[simp] theorem State.fault_setFrames (v : Nat) : (s.setFrames v).fault = s.fault := rfl
@[simp] theorem State.mem_setFrames (v : Nat) : (s.setFrames v).mem = s.mem := rfl
@[simp] theorem State.divAcc_setFrames (v : Nat) : (s.setFrames v).divAcc = s.divAcc := rfl
@[simp] theorem State.countdown_setFrames (v : Nat) : (s.setFrames v).countdown = s.countdown := rfl
@[simp] theorem State.lineCounter_setFrames (v : Nat) : (s.setFrames v).lineCounter = s.lineCounter := rfl
@[simp] theorem State.mode_setFrames (v : Nat) : (s.setFrames v).mode = s.mode := rfl
@[simp] theorem State.linesRendered_setFrames (v : Nat) : (s.setFrames v).linesRendered = s.linesRendered := rfl
@[simp] theorem State.bgSurface_setFrames (v : Nat) : (s.setFrames v).bgSurface = s.bgSurface := rfl
@[simp] theorem State.winSurface_setFrames (v : Nat) : (s.setFrames v).winSurface = s.winSurface := rfl
@[simp] theorem State.sprSurface_setFrames (v : Nat) : (s.setFrames v).sprSurface = s.sprSurface := rfl
@[simp] theorem State.frameBuffer_setFrames (v : Nat) : (s.setFrames v).frameBuffer = s.frameBuffer := rfl
@[simp] theorem State.frames_setFrames (v : Nat) : (s.setFrames v).frames = v := rfl
@[simp] theorem State.reg_setFrames (v : Nat) (r : Reg) : (s.setFrames v).reg r = s.reg r := by cases r <;> rfl
@[simp] theorem State.memRead_setFrames (v : Nat) (k : Word) : (s.setFrames v).memRead k = s.memRead k := rfl
@[simp] theorem State.flagZ_setFrames (v : Nat) : (s.setFrames v).flagZ = s.flagZ := rfl
@[simp] theorem State.flagN_setFrames (v : Nat) : (s.setFrames v).flagN = s.flagN := rfl
@[simp] theorem State.flagH_setFrames (v : Nat) : (s.setFrames v).flagH = s.flagH := rfl
@[simp] theorem State.flagC_setFrames (v : Nat) : (s.setFrames v).flagC = s.flagC := rfl

/-! ### `setReg` -/

@[simp] theorem State.f_setReg (r : Reg) (v : Byte) : (s.setReg r v).f = s.f := by cases r <;> rfl
@[simp] theorem State.sp_setReg (r : Reg) (v : Byte) : (s.setReg r v).sp = s.sp := by cases r <;> rfl
@[simp] theorem State.pc_setReg (r : Reg) (v : Byte) : (s.setReg r v).pc = s.pc := by cases r <;> rfl
@[simp] theorem State.ime_setReg (r : Reg) (v : Byte) : (s.setReg r v).ime = s.ime := by cases r <;> rfl
@[simp] theorem State.halted_setReg (r : Reg) (v : Byte) : (s.setReg r v).halted = s.halted := by cases r <;> rfl
@[simp] theorem State.numCycles_setReg (r : Reg) (v : Byte) : (s.setReg r v).numCycles = s.numCycles := by cases r <;> rfl
@[simp] theorem State.fault_setReg (r : Reg) (v : Byte) : (s.setReg r v).fault = s.fault := by cases r <;> rfl
@[simp] theorem State.mem_setReg (r : Reg) (v : Byte) : (s.setReg r v).mem = s.mem := by cases r <;> rfl
@[simp] theorem State.divAcc_setReg (r : Reg) (v : Byte) : (s.setReg r v).divAcc = s.divAcc := by cases r <;> rfl
@[simp] theorem State.countdown_setReg (r : Reg) (v : Byte) : (s.setReg r v).countdown = s.countdown := by cases r <;> rfl
@[simp] theorem State.lineCounter_setReg (r : Reg) (v : Byte) : (s.setReg r v).lineCounter = s.lineCounter := by cases r <;> rfl
@[simp] theorem State.mode_setReg (r : Reg) (v : Byte) : (s.setReg r v).mode = s.mode := by cases r <;> rfl
@[simp] theorem State.linesRendered_setReg (r : Reg) (v : Byte) : (s.setReg r v).linesRendered = s.linesRendered := by cases r <;> rfl
@[simp] theorem State.bgSurface_setReg (r : Reg) (v : Byte) : (s.setReg r v).bgSurface = s.bgSurface := by cases r <;> rfl
@[simp] theorem State.winSurface_setReg (r : Reg) (v : Byte) : (s.setReg r v).winSurface = s.winSurface := by cases r <;> rfl
@[simp] theorem State.sprSurface_setReg (r : Reg) (v : Byte) : (s.setReg r v).sprSurface = s.sprSurface := by cases r <;> rfl
@[simp] theorem State.frameBuffer_setReg (r : Reg) (v : Byte) : (s.setReg r v).frameBuffer = s.frameBuffer := by cases r <;> rfl
@[simp] theorem State.frames_setReg (r : Reg) (v : Byte) : (s.setReg r v).frames = s.frames := by cases r <;> rfl
@[simp] theorem State.memRead_setReg (r : Reg) (v : Byte) (k : Word) : (s.setReg r v).memRead k = s.memRead k := by
  cases r <;> rfl
@[simp] theorem State.flagZ_setReg (r : Reg) (v : Byte) : (s.setReg r v).flagZ = s.flagZ := by
  cases r <;> rfl
@[simp] theorem State.flagN_setReg (r : Reg) (v : Byte) : (s.setReg r v).flagN = s.flagN := by
  cases r <;> rfl
@[simp] theorem State.flagH_setReg (r : Reg) (v : Byte) : (s.setReg r v).flagH = s.flagH := by
  cases r <;> rfl
@[simp] theorem State.flagC_setReg (r : Reg) (v : Byte) : (s.setReg r v).flagC = s.flagC := by
  cases r <;> rfl

/-- A register write is read back. -/
@[simp] theorem State.reg_setReg_same (r : Reg) (v : Byte) : (s.setReg r v).reg r = v := by cases r <;> rfl

/-- A register write leaves every other register alone. -/
theorem State.reg_setReg_other {r q : Reg} (h : q ≠ r) (v : Byte) : (s.setReg r v).reg q = s.reg q := by
  cases r <;> cases q <;> first | rfl | exact absurd rfl h

/-- A register read after a register write, whichever the two are. -/
theorem State.reg_setReg (r q : Reg) (v : Byte) : (s.setReg r v).reg q = if q = r then v else s.reg q := by
  split
  · next h => subst h; exact s.reg_setReg_same q v
  · next h => exact s.reg_setReg_other h v

@[simp] theorem State.a_setReg_a (v : Byte) : (s.setReg .a v).a = v := rfl
@[simp] theorem State.a_setReg_b (v : Byte) : (s.setReg .b v).a = s.a := rfl
@[simp] theorem State.a_setReg_c (v : Byte) : (s.setReg .c v).a = s.a := rfl
@[simp] theorem State.a_setReg_d (v : Byte) : (s.setReg .d v).a = s.a := rfl
@[simp] theorem State.a_setReg_e (v : Byte) : (s.setReg .e v).a = s.a := rfl
@[simp] theorem State.a_setReg_h (v : Byte) : (s.setReg .h v).a = s.a := rfl
@[simp] theorem State.a_setReg_l (v : Byte) : (s.setReg .l v).a = s.a := rfl
@[simp] theorem State.b_setReg_a (v : Byte) : (s.setReg .a v).b = s.b := rfl
@[simp] theorem State.b_setReg_b (v : Byte) : (s.setReg .b v).b = v := rfl
@[simp] theorem State.b_setReg_c (v : Byte) : (s.setReg .c v).b = s.b := rfl
@[simp] theorem State.b_setReg_d (v : Byte) : (s.setReg .d v).b = s.b := rfl
@[simp] theorem State.b_setReg_e (v : Byte) : (s.setReg .e v).b = s.b := rfl
@[simp] theorem State.b_setReg_h (v : Byte) : (s.setReg .h v).b = s.b := rfl
@[simp] theorem State.b_setReg_l (v : Byte) : (s.setReg .l v).b = s.b := rfl
@[simp] theorem State.c_setReg_a (v : Byte) : (s.setReg .a v).c = s.c := rfl
@[simp] theorem State.c_setReg_b (v : Byte) : (s.setReg .b v).c = s.c := rfl
@[simp] theorem State.c_setReg_c (v : Byte) : (s.setReg .c v).c = v := rfl
@[simp] theorem State.c_setReg_d (v : Byte) : (s.setReg .d v).c = s.c := rfl
@[simp] theorem State.c_setReg_e (v : Byte) : (s.setReg .e v).c = s.c := rfl
@[simp] theorem State.c_setReg_h (v : Byte) : (s.setReg .h v).c = s.c := rfl
@[simp] theorem State.c_setReg_l (v : Byte) : (s.setReg .l v).c = s.c := rfl
@[simp] theorem State.d_setReg_a (v : Byte) : (s.setReg .a v).d = s.d := rfl
@[simp] theorem State.d_setReg_b (v : Byte) : (s.setReg .b v).d = s.d := rfl
@[simp] theorem State.d_setReg_c (v : Byte) : (s.setReg .c v).d = s.d := rfl
@[simp] theorem State.d_setReg_d (v : Byte) : (s.setReg .d v).d = v := rfl
@[simp] theorem State.d_setReg_e (v : Byte) : (s.setReg .e v).d = s.d := rfl
@[simp] theorem State.d_setReg_h (v : Byte) : (s.setReg .h v).d = s.d := rfl
@[simp] theorem State.d_setReg_l (v : Byte) : (s.setReg .l v).d = s.d := rfl
@[simp] theorem State.e_setReg_a (v : Byte) : (s.setReg .a v).e = s.e := rfl
@[simp] theorem State.e_setReg_b (v : Byte) : (s.setReg .b v).e = s.e := rfl
@[simp] theorem State.e_setReg_c (v : Byte) : (s.setReg .c v).e = s.e := rfl
@[simp] theorem State.e_setReg_d (v : Byte) : (s.setReg .d v).e = s.e := rfl
@[simp] theorem State.e_setReg_e (v : Byte) : (s.setReg .e v).e = v := rfl
@[simp] theorem State.e_setReg_h (v : Byte) : (s.setReg .h v).e = s.e := rfl
@[simp] theorem State.e_setReg_l (v : Byte) : (s.setReg .l v).e = s.e := rfl
@[simp] theorem State.h_setReg_a (v : Byte) : (s.setReg .a v).h = s.h := rfl
@[simp] theorem State.h_setReg_b (v : Byte) : (s.setReg .b v).h = s.h := rfl
@[simp] theorem State.h_setReg_c (v : Byte) : (s.setReg .c v).h = s.h := rfl
@[simp] theorem State.h_setReg_d (v : Byte) : (s.setReg .d v).h = s.h := rfl
@[simp] theorem State.h_setReg_e (v : Byte) : (s.setReg .e v).h = s.h := rfl
@[simp] theorem State.h_setReg_h (v : Byte) : (s.setReg .h v).h = v := rfl
@[simp] theorem State.h_setReg_l (v : Byte) : (s.setReg .l v).h = s.h := rfl
@[simp] theorem State.l_setReg_a (v : Byte) : (s.setReg .a v).l = s.l := rfl
@[simp] theorem State.l_setReg_b (v : Byte) : (s.setReg .b v).l = s.l := rfl
@[simp] theorem State.l_setReg_c (v : Byte) : (s.setReg .c v).l = s.l := rfl
@[simp] theorem State.l_setReg_d (v : Byte) : (s.setReg .d v).l = s.l := rfl
@[simp] theorem State.l_setReg_e (v : Byte) : (s.setReg .e v).l = s.l := rfl
@[simp] theorem State.l_setReg_h (v : Byte) : (s.setReg .h v).l = s.l := rfl
@[simp] theorem State.l_setReg_l (v : Byte) : (s.setReg .l v).l = v := rfl
@[simp] theorem State.reg_a : s.reg .a = s.a := rfl
@[simp] theorem State.reg_b : s.reg .b = s.b := rfl
@[simp] theorem State.reg_c : s.reg .c = s.c := rfl
@[simp] theorem State.reg_d : s.reg .d = s.d := rfl
@[simp] theorem State.reg_e : s.reg .e = s.e := rfl
@[simp] theorem State.reg_h : s.reg .h = s.h := rfl
@[simp] theorem State.reg_l : s.reg .l = s.l := rfl

end Sys2Proof.Machine
end

