-- ==== Sys2Proof/Laws/Memory.lean ====
section
/-! SUPPORT. The bus: a read after a store, and the canonical form that every store keeps. -/

namespace Sys2Proof.Machine

/-! ### Reads after stores -/

theorem Memory.lookup_erase_same (m : Memory) (k : Nat) : (m.erase k).lookup k = Memory.background k := by
  induction m with
  | nil => rfl
  | cons cell rest ih =>
    unfold Memory.erase at ih ⊢
    by_cases h : cell.1 = k
    · simpa [h] using ih
    · simpa [h, Memory.lookup] using ih

theorem Memory.lookup_erase_other (m : Memory) {j k : Nat} (h : j ≠ k) : (m.erase k).lookup j = m.lookup j := by
  induction m with
  | nil => rfl
  | cons cell rest ih =>
    unfold Memory.erase at ih ⊢
    by_cases hk : cell.1 = k
    · subst hk
      simpa [Memory.lookup, Ne.symm h] using ih
    · have e : List.filter (fun c => c.1 != k) (cell :: rest) = cell :: List.filter (fun c => c.1 != k) rest := by
        simp [hk]
      rw [e]
      simp only [Memory.lookup, ih]

theorem Memory.mem_erase {m : Memory} {k : Nat} {cell : Host.Cell} (h : cell ∈ m.erase k) : cell ∈ m ∧ cell.1 ≠ k := by
  simpa [Memory.erase] using h

theorem Memory.lookup_place_same (m : Memory) (k : Nat) (v : Byte) (h : ∀ cell ∈ m, cell.1 ≠ k) :
    (m.place k v).lookup k = v := by
  induction m with
  | nil => simp [Memory.place, Memory.lookup]
  | cons cell rest ih =>
    have hk : cell.1 ≠ k := h cell (by simp)
    have hr : ∀ c ∈ rest, c.1 ≠ k := fun c hc => h c (by simp [hc])
    by_cases hlt : k < cell.1 <;> simp [Memory.place, Memory.lookup, hlt, hk, ih hr]

theorem Memory.lookup_place_other (m : Memory) {j k : Nat} (v : Byte) (h : j ≠ k) :
    (m.place k v).lookup j = m.lookup j := by
  induction m with
  | nil => simp [Memory.place, Memory.lookup, Ne.symm h]
  | cons cell rest ih =>
    by_cases hlt : k < cell.1 <;> simp [Memory.place, Memory.lookup, hlt, Ne.symm h, ih]

/-- A store, then a load from any key: the value at that key, the old content elsewhere. -/
theorem Memory.lookup_store (m : Memory) (j k : Nat) (v : Byte) :
    (m.store k v).lookup j = if j = k then v else m.lookup j := by
  unfold Memory.store
  by_cases hjk : j = k
  · subst hjk
    by_cases hv : v = Memory.background j
    · simp [hv, Memory.lookup_erase_same]
    · simp [hv, Memory.lookup_place_same _ _ v fun _ hc => (Memory.mem_erase hc).2]
  · by_cases hv : v = Memory.background k <;>
      simp [hv, hjk, Memory.lookup_erase_other, Memory.lookup_place_other]

/-- A cell written, then any cell read: no bus stands between (20_memory.md R77). -/
theorem State.cellRead_cellWrite (s : State) (j k : Word) (v : Byte) :
    (s.cellWrite k v).cellRead j = if j = k then v else s.cellRead j := by
  rw [State.cellRead, State.cellWrite, State.cellRead]
  exact (Memory.lookup_store _ _ _ _).trans (by simp only [BitVec.toNat_inj])

/-- On the default bus a cell read directly is what the bus reads there (20_memory.md R60, R77). -/
@[simp] theorem State.cellRead_eq (s : State) (k : Word) : s.cellRead k = s.memRead k := rfl

/-- On the default bus a cell written directly is what the bus writes there (20_memory.md R60, R77). -/
@[simp] theorem State.cellWrite_eq (s : State) (k : Word) (v : Byte) : s.cellWrite k v = s.memWrite k v := rfl

/-- A write, then a read of any address. -/
theorem State.memRead_memWrite (s : State) (j k : Word) (v : Byte) :
    (s.memWrite k v).memRead j = if j = k then v else s.memRead j := by
  simp [State.memWrite, State.memRead, Params.bus, Bus.flat, Memory.lookup_store, BitVec.toNat_inj]

@[simp] theorem State.memRead_memWrite_same (s : State) (k : Word) (v : Byte) : (s.memWrite k v).memRead k = v := by
  simp [State.memRead_memWrite]

theorem State.memRead_memWrite_other (s : State) {j k : Word} (h : j ≠ k) (v : Byte) :
    (s.memWrite k v).memRead j = s.memRead j := by
  simp [State.memRead_memWrite, h]

/-! ### The canonical form -/

theorem Memory.wf_cons (cell : Host.Cell) (rest : Memory) :
    Memory.wf (cell :: rest) = true ↔
      cell.1 < 0x10000 ∧ cell.2 ≠ Memory.background cell.1 ∧ (∀ other ∈ rest, cell.1 < other.1) ∧
        Memory.wf rest = true := by
  simp [Memory.wf, and_assoc]

theorem Memory.erase_wf {m : Memory} (k : Nat) (h : m.wf = true) : (m.erase k).wf = true := by
  induction m with
  | nil => exact h
  | cons cell rest ih =>
    obtain ⟨h1, h2, h3, h4⟩ := (Memory.wf_cons cell rest).1 h
    by_cases hk : cell.1 = k
    · simpa [Memory.erase, hk] using ih h4
    · have e : Memory.erase (cell :: rest) k = cell :: Memory.erase rest k := by simp [Memory.erase, hk]
      rw [e]
      exact (Memory.wf_cons _ _).2 ⟨h1, h2, fun o ho => h3 o (Memory.mem_erase ho).1, ih h4⟩

theorem Memory.mem_place {m : Memory} {k : Nat} {v : Byte} {cell : Host.Cell} (h : cell ∈ m.place k v) :
    cell = (k, v) ∨ cell ∈ m := by
  induction m with
  | nil => simpa [Memory.place] using h
  | cons c rest ih =>
    by_cases hlt : k < c.1
    · simpa [Memory.place, hlt] using h
    · simp only [Memory.place, hlt, if_false, List.mem_cons] at h ⊢
      obtain h | h := h
      · exact .inr (.inl h)
      · obtain h | h := ih h
        · exact .inl h
        · exact .inr (.inr h)

theorem Memory.place_wf {m : Memory} {k : Nat} {v : Byte} (hk : k < 0x10000) (hv : v ≠ Memory.background k)
    (hne : ∀ cell ∈ m, cell.1 ≠ k) (h : m.wf = true) : (m.place k v).wf = true := by
  induction m with
  | nil => exact (Memory.wf_cons _ _).2 ⟨hk, hv, by simp, rfl⟩
  | cons c rest ih =>
    obtain ⟨h1, h2, h3, h4⟩ := (Memory.wf_cons c rest).1 h
    by_cases hlt : k < c.1
    · simp only [Memory.place, hlt, if_true]
      refine (Memory.wf_cons _ _).2 ⟨hk, hv, fun o ho => ?_, h⟩
      obtain rfl | ho := List.mem_cons.1 ho
      · exact hlt
      · exact Nat.lt_trans hlt (h3 o ho)
    · simp only [Memory.place, hlt, if_false]
      have hck : c.1 < k := Nat.lt_of_le_of_ne (Nat.le_of_not_lt hlt) (hne c (by simp))
      refine (Memory.wf_cons _ _).2 ⟨h1, h2, fun o ho => ?_, ih (fun o ho => hne o (by simp [ho])) h4⟩
      obtain rfl | ho := Memory.mem_place ho
      · exact hck
      · exact h3 o ho

/-- A store keeps the canonical form. -/
theorem Memory.store_wf {m : Memory} {k : Nat} (v : Byte) (hk : k < 0x10000) (h : m.wf = true) :
    (m.store k v).wf = true := by
  unfold Memory.store
  split
  · exact Memory.erase_wf k h
  · next hv => exact Memory.place_wf hk hv (fun _ hc => (Memory.mem_erase hc).2) (Memory.erase_wf k h)

/-- Every write through the bus keeps the canonical form. -/
theorem State.memWrite_wf {s : State} (k : Word) (v : Byte) (h : s.mem.wf = true) : (s.memWrite k v).mem.wf = true :=
  Memory.store_wf v k.isLt h

/-- The memory of the reset state is in canonical form. -/
theorem reset_mem_wf : State.reset.mem.wf = true := rfl

/-! ### A memory write and the other fields -/

variable (s : State) (k : Word) (v : Byte)

@[simp] theorem State.a_memWrite : (s.memWrite k v).a = s.a := rfl
@[simp] theorem State.f_memWrite : (s.memWrite k v).f = s.f := rfl
@[simp] theorem State.b_memWrite : (s.memWrite k v).b = s.b := rfl
@[simp] theorem State.c_memWrite : (s.memWrite k v).c = s.c := rfl
@[simp] theorem State.d_memWrite : (s.memWrite k v).d = s.d := rfl
@[simp] theorem State.e_memWrite : (s.memWrite k v).e = s.e := rfl
@[simp] theorem State.h_memWrite : (s.memWrite k v).h = s.h := rfl
@[simp] theorem State.l_memWrite : (s.memWrite k v).l = s.l := rfl
@[simp] theorem State.sp_memWrite : (s.memWrite k v).sp = s.sp := rfl
@[simp] theorem State.pc_memWrite : (s.memWrite k v).pc = s.pc := rfl
@[simp] theorem State.ime_memWrite : (s.memWrite k v).ime = s.ime := rfl
@[simp] theorem State.halted_memWrite : (s.memWrite k v).halted = s.halted := rfl
@[simp] theorem State.numCycles_memWrite : (s.memWrite k v).numCycles = s.numCycles := rfl
@[simp] theorem State.fault_memWrite : (s.memWrite k v).fault = s.fault := rfl
@[simp] theorem State.divAcc_memWrite : (s.memWrite k v).divAcc = s.divAcc := rfl
@[simp] theorem State.countdown_memWrite : (s.memWrite k v).countdown = s.countdown := rfl
@[simp] theorem State.lineCounter_memWrite : (s.memWrite k v).lineCounter = s.lineCounter := rfl
@[simp] theorem State.mode_memWrite : (s.memWrite k v).mode = s.mode := rfl
@[simp] theorem State.linesRendered_memWrite : (s.memWrite k v).linesRendered = s.linesRendered := rfl
@[simp] theorem State.bgSurface_memWrite : (s.memWrite k v).bgSurface = s.bgSurface := rfl
@[simp] theorem State.winSurface_memWrite : (s.memWrite k v).winSurface = s.winSurface := rfl
@[simp] theorem State.sprSurface_memWrite : (s.memWrite k v).sprSurface = s.sprSurface := rfl
@[simp] theorem State.frameBuffer_memWrite : (s.memWrite k v).frameBuffer = s.frameBuffer := rfl
@[simp] theorem State.frames_memWrite : (s.memWrite k v).frames = s.frames := rfl
@[simp] theorem State.reg_memWrite (r : Reg) : (s.memWrite k v).reg r = s.reg r := by cases r <;> rfl
@[simp] theorem State.flagZ_memWrite : (s.memWrite k v).flagZ = s.flagZ := rfl
@[simp] theorem State.flagN_memWrite : (s.memWrite k v).flagN = s.flagN := rfl
@[simp] theorem State.flagH_memWrite : (s.memWrite k v).flagH = s.flagH := rfl
@[simp] theorem State.flagC_memWrite : (s.memWrite k v).flagC = s.flagC := rfl

end Sys2Proof.Machine
end

