-- ==== Sys2Proof/Laws/Ops.lean ====
section
/-! SUPPORT. What each shared operation over memory, registers, the stack, flags and interrupts can do, said once: cite
these, do not unfold the operation. -/

namespace Sys2Proof.Machine

variable (s : State)

/-! ### Words and pairs -/

@[simp] theorem Word.hi_ofBytes (x y : Byte) : (Word.ofBytes x y).hi = x := by
  apply BitVec.eq_of_getLsbD_eq
  intro i hi
  simp only [Word.ofBytes, Word.hi, BitVec.getLsbD_extractLsb', BitVec.getLsbD_append]
  simp [hi]

@[simp] theorem Word.lo_ofBytes (x y : Byte) : (Word.ofBytes x y).lo = y := by
  apply BitVec.eq_of_getLsbD_eq
  intro i hi
  simp only [Word.ofBytes, Word.lo, BitVec.getLsbD_extractLsb', BitVec.getLsbD_append]
  simp [hi]

@[simp] theorem Word.ofBytes_hi_lo (w : Word) : Word.ofBytes w.hi w.lo = w := by
  apply BitVec.eq_of_getLsbD_eq
  intro i hi
  simp only [Word.ofBytes, Word.hi, Word.lo, BitVec.getLsbD_append, BitVec.getLsbD_extractLsb']
  by_cases h : i < 8
  · simp [h]
  · have e : 8 + (i - 8) = i := by omega
    have l : i - 8 < 8 := by omega
    simp [h, e, l]

/-- A write through a pair is read back through it. -/
@[simp] theorem State.pair_setPair_same (p : Pair) (v : Word) : (s.setPair p v).pair p = v := by
  cases p <;> simp [State.setPair, State.pair]

/-- A write through a pair, by the pair. -/
@[simp] theorem State.setPair_bc (v : Word) : s.setPair .bc v = (s.setReg .b v.hi).setReg .c v.lo := rfl
@[simp] theorem State.setPair_de (v : Word) : s.setPair .de v = (s.setReg .d v.hi).setReg .e v.lo := rfl
@[simp] theorem State.setPair_hl (v : Word) : s.setPair .hl v = (s.setReg .h v.hi).setReg .l v.lo := rfl
@[simp] theorem State.setPair_sp (v : Word) : s.setPair .sp v = s.setSp v := rfl

@[simp] theorem State.pair_bc : s.pair .bc = Word.ofBytes s.b s.c := rfl
@[simp] theorem State.pair_de : s.pair .de = Word.ofBytes s.d s.e := rfl
@[simp] theorem State.pair_hl : s.pair .hl = Word.ofBytes s.h s.l := rfl
@[simp] theorem State.pair_sp : s.pair .sp = s.sp := rfl

/-- The address in HL is the pair's value. -/
theorem State.hl_eq : s.hl = Word.ofBytes s.h s.l := rfl

@[simp] theorem State.setStackPair_bc (v : Word) : s.setStackPair .bc v = s.setPair .bc v := rfl
@[simp] theorem State.setStackPair_de (v : Word) : s.setStackPair .de v = s.setPair .de v := rfl
@[simp] theorem State.setStackPair_hl (v : Word) : s.setStackPair .hl v = s.setPair .hl v := rfl
@[simp] theorem State.setStackPair_af (v : Word) : s.setStackPair .af v = (s.setReg .a v.hi).setF (v.lo &&& 0xF0) := rfl

/-- A write through a pair writes its two registers and no other. -/
theorem State.reg_setPair (p : Pair) (v : Word) (r : Reg) :
    (s.setPair p v).reg r =
      match p, r with
      | .bc, .b => v.hi | .bc, .c => v.lo | .de, .d => v.hi | .de, .e => v.lo | .hl, .h => v.hi | .hl, .l => v.lo
      | _, _ => s.reg r := by
  cases p <;> cases r <;> rfl

@[simp] theorem State.f_setPair (p : Pair) (v : Word) : (s.setPair p v).f = s.f := by cases p <;> rfl
@[simp] theorem State.pc_setPair (p : Pair) (v : Word) : (s.setPair p v).pc = s.pc := by cases p <;> rfl
@[simp] theorem State.ime_setPair (p : Pair) (v : Word) : (s.setPair p v).ime = s.ime := by cases p <;> rfl
@[simp] theorem State.halted_setPair (p : Pair) (v : Word) : (s.setPair p v).halted = s.halted := by cases p <;> rfl
@[simp] theorem State.numCycles_setPair (p : Pair) (v : Word) : (s.setPair p v).numCycles = s.numCycles := by cases p <;> rfl
@[simp] theorem State.fault_setPair (p : Pair) (v : Word) : (s.setPair p v).fault = s.fault := by cases p <;> rfl
@[simp] theorem State.mem_setPair (p : Pair) (v : Word) : (s.setPair p v).mem = s.mem := by cases p <;> rfl
@[simp] theorem State.divAcc_setPair (p : Pair) (v : Word) : (s.setPair p v).divAcc = s.divAcc := by cases p <;> rfl
@[simp] theorem State.countdown_setPair (p : Pair) (v : Word) : (s.setPair p v).countdown = s.countdown := by cases p <;> rfl
@[simp] theorem State.lineCounter_setPair (p : Pair) (v : Word) : (s.setPair p v).lineCounter = s.lineCounter := by cases p <;> rfl
@[simp] theorem State.mode_setPair (p : Pair) (v : Word) : (s.setPair p v).mode = s.mode := by cases p <;> rfl
@[simp] theorem State.linesRendered_setPair (p : Pair) (v : Word) : (s.setPair p v).linesRendered = s.linesRendered := by cases p <;> rfl
@[simp] theorem State.bgSurface_setPair (p : Pair) (v : Word) : (s.setPair p v).bgSurface = s.bgSurface := by cases p <;> rfl
@[simp] theorem State.winSurface_setPair (p : Pair) (v : Word) : (s.setPair p v).winSurface = s.winSurface := by cases p <;> rfl
@[simp] theorem State.sprSurface_setPair (p : Pair) (v : Word) : (s.setPair p v).sprSurface = s.sprSurface := by cases p <;> rfl
@[simp] theorem State.frameBuffer_setPair (p : Pair) (v : Word) : (s.setPair p v).frameBuffer = s.frameBuffer := by cases p <;> rfl
@[simp] theorem State.frames_setPair (p : Pair) (v : Word) : (s.setPair p v).frames = s.frames := by cases p <;> rfl

@[simp] theorem State.memRead_setPair (p : Pair) (v k : Word) : (s.setPair p v).memRead k = s.memRead k := by
  cases p <;> rfl

@[simp] theorem State.sp_setStackPair (p : StackPair) (v : Word) : (s.setStackPair p v).sp = s.sp := by cases p <;> rfl
@[simp] theorem State.pc_setStackPair (p : StackPair) (v : Word) : (s.setStackPair p v).pc = s.pc := by cases p <;> rfl
@[simp] theorem State.ime_setStackPair (p : StackPair) (v : Word) : (s.setStackPair p v).ime = s.ime := by cases p <;> rfl
@[simp] theorem State.halted_setStackPair (p : StackPair) (v : Word) : (s.setStackPair p v).halted = s.halted := by cases p <;> rfl
@[simp] theorem State.numCycles_setStackPair (p : StackPair) (v : Word) : (s.setStackPair p v).numCycles = s.numCycles := by cases p <;> rfl
@[simp] theorem State.fault_setStackPair (p : StackPair) (v : Word) : (s.setStackPair p v).fault = s.fault := by cases p <;> rfl
@[simp] theorem State.mem_setStackPair (p : StackPair) (v : Word) : (s.setStackPair p v).mem = s.mem := by cases p <;> rfl
@[simp] theorem State.divAcc_setStackPair (p : StackPair) (v : Word) : (s.setStackPair p v).divAcc = s.divAcc := by cases p <;> rfl
@[simp] theorem State.countdown_setStackPair (p : StackPair) (v : Word) : (s.setStackPair p v).countdown = s.countdown := by cases p <;> rfl
@[simp] theorem State.lineCounter_setStackPair (p : StackPair) (v : Word) : (s.setStackPair p v).lineCounter = s.lineCounter := by cases p <;> rfl
@[simp] theorem State.mode_setStackPair (p : StackPair) (v : Word) : (s.setStackPair p v).mode = s.mode := by cases p <;> rfl
@[simp] theorem State.linesRendered_setStackPair (p : StackPair) (v : Word) : (s.setStackPair p v).linesRendered = s.linesRendered := by cases p <;> rfl
@[simp] theorem State.bgSurface_setStackPair (p : StackPair) (v : Word) : (s.setStackPair p v).bgSurface = s.bgSurface := by cases p <;> rfl
@[simp] theorem State.winSurface_setStackPair (p : StackPair) (v : Word) : (s.setStackPair p v).winSurface = s.winSurface := by cases p <;> rfl
@[simp] theorem State.sprSurface_setStackPair (p : StackPair) (v : Word) : (s.setStackPair p v).sprSurface = s.sprSurface := by cases p <;> rfl
@[simp] theorem State.frameBuffer_setStackPair (p : StackPair) (v : Word) : (s.setStackPair p v).frameBuffer = s.frameBuffer := by cases p <;> rfl
@[simp] theorem State.frames_setStackPair (p : StackPair) (v : Word) : (s.setStackPair p v).frames = s.frames := by cases p <;> rfl

@[simp] theorem State.memRead_setStackPair (p : StackPair) (v k : Word) :
    (s.setStackPair p v).memRead k = s.memRead k := by cases p <;> rfl

/-! ### The start of an instruction -/

@[simp] theorem State.a_fetched (n : Nat) : (s.fetched n).a = s.a := by rfl
@[simp] theorem State.f_fetched (n : Nat) : (s.fetched n).f = s.f := by rfl
@[simp] theorem State.b_fetched (n : Nat) : (s.fetched n).b = s.b := by rfl
@[simp] theorem State.c_fetched (n : Nat) : (s.fetched n).c = s.c := by rfl
@[simp] theorem State.d_fetched (n : Nat) : (s.fetched n).d = s.d := by rfl
@[simp] theorem State.e_fetched (n : Nat) : (s.fetched n).e = s.e := by rfl
@[simp] theorem State.h_fetched (n : Nat) : (s.fetched n).h = s.h := by rfl
@[simp] theorem State.l_fetched (n : Nat) : (s.fetched n).l = s.l := by rfl
@[simp] theorem State.sp_fetched (n : Nat) : (s.fetched n).sp = s.sp := by rfl
@[simp] theorem State.ime_fetched (n : Nat) : (s.fetched n).ime = s.ime := by rfl
@[simp] theorem State.halted_fetched (n : Nat) : (s.fetched n).halted = s.halted := by rfl
@[simp] theorem State.fault_fetched (n : Nat) : (s.fetched n).fault = s.fault := by rfl
@[simp] theorem State.mem_fetched (n : Nat) : (s.fetched n).mem = s.mem := by rfl
@[simp] theorem State.divAcc_fetched (n : Nat) : (s.fetched n).divAcc = s.divAcc := by rfl
@[simp] theorem State.countdown_fetched (n : Nat) : (s.fetched n).countdown = s.countdown := by rfl
@[simp] theorem State.lineCounter_fetched (n : Nat) : (s.fetched n).lineCounter = s.lineCounter := by rfl
@[simp] theorem State.mode_fetched (n : Nat) : (s.fetched n).mode = s.mode := by rfl
@[simp] theorem State.linesRendered_fetched (n : Nat) : (s.fetched n).linesRendered = s.linesRendered := by rfl
@[simp] theorem State.bgSurface_fetched (n : Nat) : (s.fetched n).bgSurface = s.bgSurface := by rfl
@[simp] theorem State.winSurface_fetched (n : Nat) : (s.fetched n).winSurface = s.winSurface := by rfl
@[simp] theorem State.sprSurface_fetched (n : Nat) : (s.fetched n).sprSurface = s.sprSurface := by rfl
@[simp] theorem State.frameBuffer_fetched (n : Nat) : (s.fetched n).frameBuffer = s.frameBuffer := by rfl
@[simp] theorem State.frames_fetched (n : Nat) : (s.fetched n).frames = s.frames := by rfl
@[simp] theorem State.reg_fetched (n : Nat) (r : Reg) : (s.fetched n).reg r = s.reg r := by
  cases r <;> rfl

@[simp] theorem State.hl_fetched (n : Nat) : (s.fetched n).hl = s.hl := rfl
@[simp] theorem State.pc_fetched (n : Nat) : (s.fetched n).pc = s.pc + BitVec.ofNat 16 n := rfl
@[simp] theorem State.memRead_fetched (n : Nat) (k : Word) : (s.fetched n).memRead k = s.memRead k := rfl
@[simp] theorem State.flagZ_fetched (n : Nat) : (s.fetched n).flagZ = s.flagZ := rfl
@[simp] theorem State.flagN_fetched (n : Nat) : (s.fetched n).flagN = s.flagN := rfl
@[simp] theorem State.flagH_fetched (n : Nat) : (s.fetched n).flagH = s.flagH := rfl
@[simp] theorem State.flagC_fetched (n : Nat) : (s.fetched n).flagC = s.flagC := rfl

/-! ### The stack and 16-bit stores -/

@[simp] theorem State.a_memWrite16 (k : Word) (v : Word) : (s.memWrite16 k v).a = s.a := by rfl
@[simp] theorem State.f_memWrite16 (k : Word) (v : Word) : (s.memWrite16 k v).f = s.f := by rfl
@[simp] theorem State.b_memWrite16 (k : Word) (v : Word) : (s.memWrite16 k v).b = s.b := by rfl
@[simp] theorem State.c_memWrite16 (k : Word) (v : Word) : (s.memWrite16 k v).c = s.c := by rfl
@[simp] theorem State.d_memWrite16 (k : Word) (v : Word) : (s.memWrite16 k v).d = s.d := by rfl
@[simp] theorem State.e_memWrite16 (k : Word) (v : Word) : (s.memWrite16 k v).e = s.e := by rfl
@[simp] theorem State.h_memWrite16 (k : Word) (v : Word) : (s.memWrite16 k v).h = s.h := by rfl
@[simp] theorem State.l_memWrite16 (k : Word) (v : Word) : (s.memWrite16 k v).l = s.l := by rfl
@[simp] theorem State.sp_memWrite16 (k : Word) (v : Word) : (s.memWrite16 k v).sp = s.sp := by rfl
@[simp] theorem State.pc_memWrite16 (k : Word) (v : Word) : (s.memWrite16 k v).pc = s.pc := by rfl
@[simp] theorem State.ime_memWrite16 (k : Word) (v : Word) : (s.memWrite16 k v).ime = s.ime := by rfl
@[simp] theorem State.halted_memWrite16 (k : Word) (v : Word) : (s.memWrite16 k v).halted = s.halted := by rfl
@[simp] theorem State.numCycles_memWrite16 (k : Word) (v : Word) : (s.memWrite16 k v).numCycles = s.numCycles := by rfl
@[simp] theorem State.fault_memWrite16 (k : Word) (v : Word) : (s.memWrite16 k v).fault = s.fault := by rfl
@[simp] theorem State.divAcc_memWrite16 (k : Word) (v : Word) : (s.memWrite16 k v).divAcc = s.divAcc := by rfl
@[simp] theorem State.countdown_memWrite16 (k : Word) (v : Word) : (s.memWrite16 k v).countdown = s.countdown := by rfl
@[simp] theorem State.lineCounter_memWrite16 (k : Word) (v : Word) : (s.memWrite16 k v).lineCounter = s.lineCounter := by rfl
@[simp] theorem State.mode_memWrite16 (k : Word) (v : Word) : (s.memWrite16 k v).mode = s.mode := by rfl
@[simp] theorem State.linesRendered_memWrite16 (k : Word) (v : Word) : (s.memWrite16 k v).linesRendered = s.linesRendered := by rfl
@[simp] theorem State.bgSurface_memWrite16 (k : Word) (v : Word) : (s.memWrite16 k v).bgSurface = s.bgSurface := by rfl
@[simp] theorem State.winSurface_memWrite16 (k : Word) (v : Word) : (s.memWrite16 k v).winSurface = s.winSurface := by rfl
@[simp] theorem State.sprSurface_memWrite16 (k : Word) (v : Word) : (s.memWrite16 k v).sprSurface = s.sprSurface := by rfl
@[simp] theorem State.frameBuffer_memWrite16 (k : Word) (v : Word) : (s.memWrite16 k v).frameBuffer = s.frameBuffer := by rfl
@[simp] theorem State.frames_memWrite16 (k : Word) (v : Word) : (s.memWrite16 k v).frames = s.frames := by rfl
@[simp] theorem State.reg_memWrite16 (k : Word) (v : Word) (r : Reg) : (s.memWrite16 k v).reg r = s.reg r := by
  cases r <;> rfl

/-- A 16-bit store, then a byte read: the low byte at the address, the high byte at the next (R63). -/
theorem State.memRead_memWrite16 (k v j : Word) :
    (s.memWrite16 k v).memRead j = if j = k + 1 then v.hi else if j = k then v.lo else s.memRead j := by
  simp [State.memWrite16, State.memRead_memWrite]

theorem State.memWrite16_wf {s : State} (k v : Word) (h : s.mem.wf = true) : (s.memWrite16 k v).mem.wf = true :=
  State.memWrite_wf _ _ (State.memWrite_wf _ _ h)

@[simp] theorem State.a_push16 (v : Word) : (s.push16 v).a = s.a := by rfl
@[simp] theorem State.f_push16 (v : Word) : (s.push16 v).f = s.f := by rfl
@[simp] theorem State.b_push16 (v : Word) : (s.push16 v).b = s.b := by rfl
@[simp] theorem State.c_push16 (v : Word) : (s.push16 v).c = s.c := by rfl
@[simp] theorem State.d_push16 (v : Word) : (s.push16 v).d = s.d := by rfl
@[simp] theorem State.e_push16 (v : Word) : (s.push16 v).e = s.e := by rfl
@[simp] theorem State.h_push16 (v : Word) : (s.push16 v).h = s.h := by rfl
@[simp] theorem State.l_push16 (v : Word) : (s.push16 v).l = s.l := by rfl
@[simp] theorem State.pc_push16 (v : Word) : (s.push16 v).pc = s.pc := by rfl
@[simp] theorem State.ime_push16 (v : Word) : (s.push16 v).ime = s.ime := by rfl
@[simp] theorem State.halted_push16 (v : Word) : (s.push16 v).halted = s.halted := by rfl
@[simp] theorem State.numCycles_push16 (v : Word) : (s.push16 v).numCycles = s.numCycles := by rfl
@[simp] theorem State.fault_push16 (v : Word) : (s.push16 v).fault = s.fault := by rfl
@[simp] theorem State.divAcc_push16 (v : Word) : (s.push16 v).divAcc = s.divAcc := by rfl
@[simp] theorem State.countdown_push16 (v : Word) : (s.push16 v).countdown = s.countdown := by rfl
@[simp] theorem State.lineCounter_push16 (v : Word) : (s.push16 v).lineCounter = s.lineCounter := by rfl
@[simp] theorem State.mode_push16 (v : Word) : (s.push16 v).mode = s.mode := by rfl
@[simp] theorem State.linesRendered_push16 (v : Word) : (s.push16 v).linesRendered = s.linesRendered := by rfl
@[simp] theorem State.bgSurface_push16 (v : Word) : (s.push16 v).bgSurface = s.bgSurface := by rfl
@[simp] theorem State.winSurface_push16 (v : Word) : (s.push16 v).winSurface = s.winSurface := by rfl
@[simp] theorem State.sprSurface_push16 (v : Word) : (s.push16 v).sprSurface = s.sprSurface := by rfl
@[simp] theorem State.frameBuffer_push16 (v : Word) : (s.push16 v).frameBuffer = s.frameBuffer := by rfl
@[simp] theorem State.frames_push16 (v : Word) : (s.push16 v).frames = s.frames := by rfl
@[simp] theorem State.reg_push16 (v : Word) (r : Reg) : (s.push16 v).reg r = s.reg r := by
  cases r <;> rfl

@[simp] theorem State.sp_push16 (v : Word) : (s.push16 v).sp = s.sp - 2 := by
  show s.sp - 1 - 1 = s.sp - 2
  bv_omega

/-- A push, then a byte read: the high byte below the old SP, the low byte below that (R66). -/
theorem State.memRead_push16 (v j : Word) :
    (s.push16 v).memRead j =
      if j = s.sp - 2 then v.lo else if j = s.sp - 1 then v.hi else s.memRead j := by
  have e : s.sp - 1#16 - 1#16 = s.sp - 2#16 := by bv_omega
  simp [State.push16, State.memRead_memWrite, e]

theorem State.push16_wf {s : State} (v : Word) (h : s.mem.wf = true) : (s.push16 v).mem.wf = true :=
  State.memWrite_wf _ _ (s := (s.setSp _ |>.memWrite _ _).setSp _) (State.memWrite_wf (s := s.setSp _) _ _ h)

/-- What was pushed is on top of the stack (R67). -/
@[simp] theorem State.stackTop_push16 (v : Word) : (s.push16 v).stackTop = v := by
  have h1 : s.sp - 2#16 + 1#16 = s.sp - 1#16 := by bv_omega
  have h2 : s.sp - 1#16 ≠ s.sp - 2#16 := by bv_omega
  simp [State.stackTop, State.memRead_push16, h1, h2]

@[simp] theorem State.a_dropTop : (s.dropTop).a = s.a := by rfl
@[simp] theorem State.f_dropTop : (s.dropTop).f = s.f := by rfl
@[simp] theorem State.b_dropTop : (s.dropTop).b = s.b := by rfl
@[simp] theorem State.c_dropTop : (s.dropTop).c = s.c := by rfl
@[simp] theorem State.d_dropTop : (s.dropTop).d = s.d := by rfl
@[simp] theorem State.e_dropTop : (s.dropTop).e = s.e := by rfl
@[simp] theorem State.h_dropTop : (s.dropTop).h = s.h := by rfl
@[simp] theorem State.l_dropTop : (s.dropTop).l = s.l := by rfl
@[simp] theorem State.pc_dropTop : (s.dropTop).pc = s.pc := by rfl
@[simp] theorem State.ime_dropTop : (s.dropTop).ime = s.ime := by rfl
@[simp] theorem State.halted_dropTop : (s.dropTop).halted = s.halted := by rfl
@[simp] theorem State.numCycles_dropTop : (s.dropTop).numCycles = s.numCycles := by rfl
@[simp] theorem State.fault_dropTop : (s.dropTop).fault = s.fault := by rfl
@[simp] theorem State.mem_dropTop : (s.dropTop).mem = s.mem := by rfl
@[simp] theorem State.divAcc_dropTop : (s.dropTop).divAcc = s.divAcc := by rfl
@[simp] theorem State.countdown_dropTop : (s.dropTop).countdown = s.countdown := by rfl
@[simp] theorem State.lineCounter_dropTop : (s.dropTop).lineCounter = s.lineCounter := by rfl
@[simp] theorem State.mode_dropTop : (s.dropTop).mode = s.mode := by rfl
@[simp] theorem State.linesRendered_dropTop : (s.dropTop).linesRendered = s.linesRendered := by rfl
@[simp] theorem State.bgSurface_dropTop : (s.dropTop).bgSurface = s.bgSurface := by rfl
@[simp] theorem State.winSurface_dropTop : (s.dropTop).winSurface = s.winSurface := by rfl
@[simp] theorem State.sprSurface_dropTop : (s.dropTop).sprSurface = s.sprSurface := by rfl
@[simp] theorem State.frameBuffer_dropTop : (s.dropTop).frameBuffer = s.frameBuffer := by rfl
@[simp] theorem State.frames_dropTop : (s.dropTop).frames = s.frames := by rfl
@[simp] theorem State.reg_dropTop (r : Reg) : (s.dropTop).reg r = s.reg r := by
  cases r <;> rfl

@[simp] theorem State.sp_dropTop : s.dropTop.sp = s.sp + 2 := rfl
@[simp] theorem State.memRead_dropTop (k : Word) : s.dropTop.memRead k = s.memRead k := rfl

/-! ### Flags -/

theorem packFlags_bits : ∀ z n h c : Bool, (packFlags z n h c).getLsbD 7 = z ∧ (packFlags z n h c).getLsbD 6 = n ∧
    (packFlags z n h c).getLsbD 5 = h ∧ (packFlags z n h c).getLsbD 4 = c ∧ packFlags z n h c &&& 0x0F = 0 := by decide

@[simp] theorem flagZ_setFlags (z n h c : Bool) : (s.setFlags z n h c).flagZ = z := (packFlags_bits z n h c).1
@[simp] theorem flagN_setFlags (z n h c : Bool) : (s.setFlags z n h c).flagN = n := (packFlags_bits z n h c).2.1
@[simp] theorem flagH_setFlags (z n h c : Bool) : (s.setFlags z n h c).flagH = h := (packFlags_bits z n h c).2.2.1
@[simp] theorem flagC_setFlags (z n h c : Bool) : (s.setFlags z n h c).flagC = c := (packFlags_bits z n h c).2.2.2.1

/-- Every write of the flags leaves the low nibble zero (R24). -/
@[simp] theorem f_setFlags_low (z n h c : Bool) : (s.setFlags z n h c).f &&& 15#8 = 0#8 :=
  (packFlags_bits z n h c).2.2.2.2

/-- Packing the four flags of a byte whose low nibble is zero gives the byte back. -/
theorem packFlags_self : ∀ f : Byte, f &&& 0x0F = 0 →
    packFlags (f.getLsbD 7) (f.getLsbD 6) (f.getLsbD 5) (f.getLsbD 4) = f := by decide +revert

@[simp] theorem State.a_setFlags (z : Bool) (n : Bool) (h : Bool) (c : Bool) : (s.setFlags z n h c).a = s.a := by rfl
@[simp] theorem State.b_setFlags (z : Bool) (n : Bool) (h : Bool) (c : Bool) : (s.setFlags z n h c).b = s.b := by rfl
@[simp] theorem State.c_setFlags (z : Bool) (n : Bool) (h : Bool) (c : Bool) : (s.setFlags z n h c).c = s.c := by rfl
@[simp] theorem State.d_setFlags (z : Bool) (n : Bool) (h : Bool) (c : Bool) : (s.setFlags z n h c).d = s.d := by rfl
@[simp] theorem State.e_setFlags (z : Bool) (n : Bool) (h : Bool) (c : Bool) : (s.setFlags z n h c).e = s.e := by rfl
@[simp] theorem State.h_setFlags (z : Bool) (n : Bool) (h : Bool) (c : Bool) : (s.setFlags z n h c).h = s.h := by rfl
@[simp] theorem State.l_setFlags (z : Bool) (n : Bool) (h : Bool) (c : Bool) : (s.setFlags z n h c).l = s.l := by rfl
@[simp] theorem State.sp_setFlags (z : Bool) (n : Bool) (h : Bool) (c : Bool) : (s.setFlags z n h c).sp = s.sp := by rfl
@[simp] theorem State.pc_setFlags (z : Bool) (n : Bool) (h : Bool) (c : Bool) : (s.setFlags z n h c).pc = s.pc := by rfl
@[simp] theorem State.ime_setFlags (z : Bool) (n : Bool) (h : Bool) (c : Bool) : (s.setFlags z n h c).ime = s.ime := by rfl
@[simp] theorem State.halted_setFlags (z : Bool) (n : Bool) (h : Bool) (c : Bool) : (s.setFlags z n h c).halted = s.halted := by rfl
@[simp] theorem State.numCycles_setFlags (z : Bool) (n : Bool) (h : Bool) (c : Bool) : (s.setFlags z n h c).numCycles = s.numCycles := by rfl
@[simp] theorem State.fault_setFlags (z : Bool) (n : Bool) (h : Bool) (c : Bool) : (s.setFlags z n h c).fault = s.fault := by rfl
@[simp] theorem State.mem_setFlags (z : Bool) (n : Bool) (h : Bool) (c : Bool) : (s.setFlags z n h c).mem = s.mem := by rfl
@[simp] theorem State.divAcc_setFlags (z : Bool) (n : Bool) (h : Bool) (c : Bool) : (s.setFlags z n h c).divAcc = s.divAcc := by rfl
@[simp] theorem State.countdown_setFlags (z : Bool) (n : Bool) (h : Bool) (c : Bool) : (s.setFlags z n h c).countdown = s.countdown := by rfl
@[simp] theorem State.lineCounter_setFlags (z : Bool) (n : Bool) (h : Bool) (c : Bool) : (s.setFlags z n h c).lineCounter = s.lineCounter := by rfl
@[simp] theorem State.mode_setFlags (z : Bool) (n : Bool) (h : Bool) (c : Bool) : (s.setFlags z n h c).mode = s.mode := by rfl
@[simp] theorem State.linesRendered_setFlags (z : Bool) (n : Bool) (h : Bool) (c : Bool) : (s.setFlags z n h c).linesRendered = s.linesRendered := by rfl
@[simp] theorem State.bgSurface_setFlags (z : Bool) (n : Bool) (h : Bool) (c : Bool) : (s.setFlags z n h c).bgSurface = s.bgSurface := by rfl
@[simp] theorem State.winSurface_setFlags (z : Bool) (n : Bool) (h : Bool) (c : Bool) : (s.setFlags z n h c).winSurface = s.winSurface := by rfl
@[simp] theorem State.sprSurface_setFlags (z : Bool) (n : Bool) (h : Bool) (c : Bool) : (s.setFlags z n h c).sprSurface = s.sprSurface := by rfl
@[simp] theorem State.frameBuffer_setFlags (z : Bool) (n : Bool) (h : Bool) (c : Bool) : (s.setFlags z n h c).frameBuffer = s.frameBuffer := by rfl
@[simp] theorem State.frames_setFlags (z : Bool) (n : Bool) (h : Bool) (c : Bool) : (s.setFlags z n h c).frames = s.frames := by rfl
@[simp] theorem State.reg_setFlags (z : Bool) (n : Bool) (h : Bool) (c : Bool) (r : Reg) : (s.setFlags z n h c).reg r = s.reg r := by
  cases r <;> rfl

@[simp] theorem State.memRead_setFlags (z n h c : Bool) (k : Word) : (s.setFlags z n h c).memRead k = s.memRead k := rfl

/-- An ALU operation writes A and F and nothing else. -/
@[simp] theorem State.b_alu (op : AluOp) (x : Byte) : (s.alu op x).b = s.b := by cases op <;> rfl
@[simp] theorem State.c_alu (op : AluOp) (x : Byte) : (s.alu op x).c = s.c := by cases op <;> rfl
@[simp] theorem State.d_alu (op : AluOp) (x : Byte) : (s.alu op x).d = s.d := by cases op <;> rfl
@[simp] theorem State.e_alu (op : AluOp) (x : Byte) : (s.alu op x).e = s.e := by cases op <;> rfl
@[simp] theorem State.h_alu (op : AluOp) (x : Byte) : (s.alu op x).h = s.h := by cases op <;> rfl
@[simp] theorem State.l_alu (op : AluOp) (x : Byte) : (s.alu op x).l = s.l := by cases op <;> rfl
@[simp] theorem State.sp_alu (op : AluOp) (x : Byte) : (s.alu op x).sp = s.sp := by cases op <;> rfl
@[simp] theorem State.pc_alu (op : AluOp) (x : Byte) : (s.alu op x).pc = s.pc := by cases op <;> rfl
@[simp] theorem State.ime_alu (op : AluOp) (x : Byte) : (s.alu op x).ime = s.ime := by cases op <;> rfl
@[simp] theorem State.halted_alu (op : AluOp) (x : Byte) : (s.alu op x).halted = s.halted := by cases op <;> rfl
@[simp] theorem State.numCycles_alu (op : AluOp) (x : Byte) : (s.alu op x).numCycles = s.numCycles := by cases op <;> rfl
@[simp] theorem State.fault_alu (op : AluOp) (x : Byte) : (s.alu op x).fault = s.fault := by cases op <;> rfl
@[simp] theorem State.mem_alu (op : AluOp) (x : Byte) : (s.alu op x).mem = s.mem := by cases op <;> rfl
@[simp] theorem State.divAcc_alu (op : AluOp) (x : Byte) : (s.alu op x).divAcc = s.divAcc := by cases op <;> rfl
@[simp] theorem State.countdown_alu (op : AluOp) (x : Byte) : (s.alu op x).countdown = s.countdown := by cases op <;> rfl
@[simp] theorem State.lineCounter_alu (op : AluOp) (x : Byte) : (s.alu op x).lineCounter = s.lineCounter := by cases op <;> rfl
@[simp] theorem State.mode_alu (op : AluOp) (x : Byte) : (s.alu op x).mode = s.mode := by cases op <;> rfl
@[simp] theorem State.linesRendered_alu (op : AluOp) (x : Byte) : (s.alu op x).linesRendered = s.linesRendered := by cases op <;> rfl
@[simp] theorem State.bgSurface_alu (op : AluOp) (x : Byte) : (s.alu op x).bgSurface = s.bgSurface := by cases op <;> rfl
@[simp] theorem State.winSurface_alu (op : AluOp) (x : Byte) : (s.alu op x).winSurface = s.winSurface := by cases op <;> rfl
@[simp] theorem State.sprSurface_alu (op : AluOp) (x : Byte) : (s.alu op x).sprSurface = s.sprSurface := by cases op <;> rfl
@[simp] theorem State.frameBuffer_alu (op : AluOp) (x : Byte) : (s.alu op x).frameBuffer = s.frameBuffer := by cases op <;> rfl
@[simp] theorem State.frames_alu (op : AluOp) (x : Byte) : (s.alu op x).frames = s.frames := by cases op <;> rfl

@[simp] theorem State.memRead_alu (op : AluOp) (x : Byte) (k : Word) : (s.alu op x).memRead k = s.memRead k := by
  cases op <;> rfl

/-! ### Interrupts -/

@[simp] theorem State.a_request (src : IntSource) : (s.request src).a = s.a := by rfl
@[simp] theorem State.f_request (src : IntSource) : (s.request src).f = s.f := by rfl
@[simp] theorem State.b_request (src : IntSource) : (s.request src).b = s.b := by rfl
@[simp] theorem State.c_request (src : IntSource) : (s.request src).c = s.c := by rfl
@[simp] theorem State.d_request (src : IntSource) : (s.request src).d = s.d := by rfl
@[simp] theorem State.e_request (src : IntSource) : (s.request src).e = s.e := by rfl
@[simp] theorem State.h_request (src : IntSource) : (s.request src).h = s.h := by rfl
@[simp] theorem State.l_request (src : IntSource) : (s.request src).l = s.l := by rfl
@[simp] theorem State.sp_request (src : IntSource) : (s.request src).sp = s.sp := by rfl
@[simp] theorem State.pc_request (src : IntSource) : (s.request src).pc = s.pc := by rfl
@[simp] theorem State.ime_request (src : IntSource) : (s.request src).ime = s.ime := by rfl
@[simp] theorem State.halted_request (src : IntSource) : (s.request src).halted = s.halted := by rfl
@[simp] theorem State.numCycles_request (src : IntSource) : (s.request src).numCycles = s.numCycles := by rfl
@[simp] theorem State.fault_request (src : IntSource) : (s.request src).fault = s.fault := by rfl
@[simp] theorem State.divAcc_request (src : IntSource) : (s.request src).divAcc = s.divAcc := by rfl
@[simp] theorem State.countdown_request (src : IntSource) : (s.request src).countdown = s.countdown := by rfl
@[simp] theorem State.lineCounter_request (src : IntSource) : (s.request src).lineCounter = s.lineCounter := by rfl
@[simp] theorem State.mode_request (src : IntSource) : (s.request src).mode = s.mode := by rfl
@[simp] theorem State.linesRendered_request (src : IntSource) : (s.request src).linesRendered = s.linesRendered := by rfl
@[simp] theorem State.bgSurface_request (src : IntSource) : (s.request src).bgSurface = s.bgSurface := by rfl
@[simp] theorem State.winSurface_request (src : IntSource) : (s.request src).winSurface = s.winSurface := by rfl
@[simp] theorem State.sprSurface_request (src : IntSource) : (s.request src).sprSurface = s.sprSurface := by rfl
@[simp] theorem State.frameBuffer_request (src : IntSource) : (s.request src).frameBuffer = s.frameBuffer := by rfl
@[simp] theorem State.frames_request (src : IntSource) : (s.request src).frames = s.frames := by rfl
@[simp] theorem State.reg_request (src : IntSource) (r : Reg) : (s.request src).reg r = s.reg r := by
  cases r <;> rfl

@[simp] theorem State.a_clearPending (src : IntSource) : (s.clearPending src).a = s.a := by rfl
@[simp] theorem State.f_clearPending (src : IntSource) : (s.clearPending src).f = s.f := by rfl
@[simp] theorem State.b_clearPending (src : IntSource) : (s.clearPending src).b = s.b := by rfl
@[simp] theorem State.c_clearPending (src : IntSource) : (s.clearPending src).c = s.c := by rfl
@[simp] theorem State.d_clearPending (src : IntSource) : (s.clearPending src).d = s.d := by rfl
@[simp] theorem State.e_clearPending (src : IntSource) : (s.clearPending src).e = s.e := by rfl
@[simp] theorem State.h_clearPending (src : IntSource) : (s.clearPending src).h = s.h := by rfl
@[simp] theorem State.l_clearPending (src : IntSource) : (s.clearPending src).l = s.l := by rfl
@[simp] theorem State.sp_clearPending (src : IntSource) : (s.clearPending src).sp = s.sp := by rfl
@[simp] theorem State.pc_clearPending (src : IntSource) : (s.clearPending src).pc = s.pc := by rfl
@[simp] theorem State.ime_clearPending (src : IntSource) : (s.clearPending src).ime = s.ime := by rfl
@[simp] theorem State.halted_clearPending (src : IntSource) : (s.clearPending src).halted = s.halted := by rfl
@[simp] theorem State.numCycles_clearPending (src : IntSource) : (s.clearPending src).numCycles = s.numCycles := by rfl
@[simp] theorem State.fault_clearPending (src : IntSource) : (s.clearPending src).fault = s.fault := by rfl
@[simp] theorem State.divAcc_clearPending (src : IntSource) : (s.clearPending src).divAcc = s.divAcc := by rfl
@[simp] theorem State.countdown_clearPending (src : IntSource) : (s.clearPending src).countdown = s.countdown := by rfl
@[simp] theorem State.lineCounter_clearPending (src : IntSource) : (s.clearPending src).lineCounter = s.lineCounter := by rfl
@[simp] theorem State.mode_clearPending (src : IntSource) : (s.clearPending src).mode = s.mode := by rfl
@[simp] theorem State.linesRendered_clearPending (src : IntSource) : (s.clearPending src).linesRendered = s.linesRendered := by rfl
@[simp] theorem State.bgSurface_clearPending (src : IntSource) : (s.clearPending src).bgSurface = s.bgSurface := by rfl
@[simp] theorem State.winSurface_clearPending (src : IntSource) : (s.clearPending src).winSurface = s.winSurface := by rfl
@[simp] theorem State.sprSurface_clearPending (src : IntSource) : (s.clearPending src).sprSurface = s.sprSurface := by rfl
@[simp] theorem State.frameBuffer_clearPending (src : IntSource) : (s.clearPending src).frameBuffer = s.frameBuffer := by rfl
@[simp] theorem State.frames_clearPending (src : IntSource) : (s.clearPending src).frames = s.frames := by rfl
@[simp] theorem State.reg_clearPending (src : IntSource) (r : Reg) : (s.clearPending src).reg r = s.reg r := by
  cases r <;> rfl

@[simp] theorem State.a_takeInterrupt (src : IntSource) : (s.takeInterrupt src).a = s.a := by simp [State.takeInterrupt]
@[simp] theorem State.f_takeInterrupt (src : IntSource) : (s.takeInterrupt src).f = s.f := by simp [State.takeInterrupt]
@[simp] theorem State.b_takeInterrupt (src : IntSource) : (s.takeInterrupt src).b = s.b := by simp [State.takeInterrupt]
@[simp] theorem State.c_takeInterrupt (src : IntSource) : (s.takeInterrupt src).c = s.c := by simp [State.takeInterrupt]
@[simp] theorem State.d_takeInterrupt (src : IntSource) : (s.takeInterrupt src).d = s.d := by simp [State.takeInterrupt]
@[simp] theorem State.e_takeInterrupt (src : IntSource) : (s.takeInterrupt src).e = s.e := by simp [State.takeInterrupt]
@[simp] theorem State.h_takeInterrupt (src : IntSource) : (s.takeInterrupt src).h = s.h := by simp [State.takeInterrupt]
@[simp] theorem State.l_takeInterrupt (src : IntSource) : (s.takeInterrupt src).l = s.l := by simp [State.takeInterrupt]
@[simp] theorem State.halted_takeInterrupt (src : IntSource) : (s.takeInterrupt src).halted = s.halted := by simp [State.takeInterrupt]
@[simp] theorem State.numCycles_takeInterrupt (src : IntSource) : (s.takeInterrupt src).numCycles = s.numCycles := by simp [State.takeInterrupt]
@[simp] theorem State.fault_takeInterrupt (src : IntSource) : (s.takeInterrupt src).fault = s.fault := by simp [State.takeInterrupt]
@[simp] theorem State.divAcc_takeInterrupt (src : IntSource) : (s.takeInterrupt src).divAcc = s.divAcc := by simp [State.takeInterrupt]
@[simp] theorem State.countdown_takeInterrupt (src : IntSource) : (s.takeInterrupt src).countdown = s.countdown := by simp [State.takeInterrupt]
@[simp] theorem State.lineCounter_takeInterrupt (src : IntSource) : (s.takeInterrupt src).lineCounter = s.lineCounter := by simp [State.takeInterrupt]
@[simp] theorem State.mode_takeInterrupt (src : IntSource) : (s.takeInterrupt src).mode = s.mode := by simp [State.takeInterrupt]
@[simp] theorem State.linesRendered_takeInterrupt (src : IntSource) : (s.takeInterrupt src).linesRendered = s.linesRendered := by simp [State.takeInterrupt]
@[simp] theorem State.bgSurface_takeInterrupt (src : IntSource) : (s.takeInterrupt src).bgSurface = s.bgSurface := by simp [State.takeInterrupt]
@[simp] theorem State.winSurface_takeInterrupt (src : IntSource) : (s.takeInterrupt src).winSurface = s.winSurface := by simp [State.takeInterrupt]
@[simp] theorem State.sprSurface_takeInterrupt (src : IntSource) : (s.takeInterrupt src).sprSurface = s.sprSurface := by simp [State.takeInterrupt]
@[simp] theorem State.frameBuffer_takeInterrupt (src : IntSource) : (s.takeInterrupt src).frameBuffer = s.frameBuffer := by simp [State.takeInterrupt]
@[simp] theorem State.frames_takeInterrupt (src : IntSource) : (s.takeInterrupt src).frames = s.frames := by simp [State.takeInterrupt]
@[simp] theorem State.reg_takeInterrupt (src : IntSource) (r : Reg) : (s.takeInterrupt src).reg r = s.reg r := by
  cases r <;> simp [State.reg]

/-- A request sets one bit of IF and changes no other byte (R321). -/
theorem State.memRead_request (src : IntSource) (j : Word) :
    (s.request src).memRead j =
      if j = Params.intFlag then s.memRead Params.intFlag ||| (1#8 <<< src.index) else s.memRead j := by
  simp [State.request, State.memRead_memWrite]

/-- Clearing a pending bit changes no other bit of IF and no other byte (R322). -/
theorem State.memRead_clearPending (src : IntSource) (j : Word) :
    (s.clearPending src).memRead j =
      if j = Params.intFlag then s.memRead Params.intFlag &&& ~~~(1#8 <<< src.index) else s.memRead j := by
  simp [State.clearPending, State.memRead_memWrite]

theorem State.request_wf {s : State} (src : IntSource) (h : s.mem.wf = true) : (s.request src).mem.wf = true :=
  State.memWrite_wf _ _ h

@[simp] theorem State.ime_takeInterrupt (src : IntSource) : (s.takeInterrupt src).ime = false := by
  simp [State.takeInterrupt]
@[simp] theorem State.pc_takeInterrupt (src : IntSource) : (s.takeInterrupt src).pc = Params.vector src := by
  simp [State.takeInterrupt]
@[simp] theorem State.sp_takeInterrupt (src : IntSource) : (s.takeInterrupt src).sp = s.sp - 2 := by
  simp [State.takeInterrupt]

/-- The stack bytes of a dispatch, the cleared pending bit, and every other byte kept (R324). The two writes of the push
come after the clearing of the bit. -/
theorem State.memRead_takeInterrupt (src : IntSource) (j : Word) :
    (s.takeInterrupt src).memRead j =
      if j = s.sp - 2 then s.pc.lo else if j = s.sp - 1 then s.pc.hi
      else if j = Params.intFlag then s.memRead Params.intFlag &&& ~~~(1#8 <<< src.index) else s.memRead j := by
  simp [State.takeInterrupt, State.memRead_push16, State.memRead_clearPending]

theorem State.takeInterrupt_wf {s : State} (src : IntSource) (h : s.mem.wf = true) :
    (s.takeInterrupt src).mem.wf = true :=
  State.push16_wf (s := (s.setIme false).clearPending src) _ (State.memWrite_wf (s := s.setIme false) _ _ h)

end Sys2Proof.Machine
end

