-- ==== Sys2Proof/Laws/Devices.lean ====
section
/-! SUPPORT. What TIMER, PPU and IC can change: the fields each of their operations keeps, that each keeps the canonical form
of memory, and which bytes each of TIMER and PPU may write (20_memory.md R77): every other byte reads as before. -/

namespace Sys2Proof.Machine

variable (s : State)

/-! ### `dividerAdvance` -/

@[simp] theorem State.a_dividerAdvance (c : Nat) : (s.dividerAdvance c).a = s.a := by unfold State.dividerAdvance; split <;> simp
@[simp] theorem State.f_dividerAdvance (c : Nat) : (s.dividerAdvance c).f = s.f := by unfold State.dividerAdvance; split <;> simp
@[simp] theorem State.b_dividerAdvance (c : Nat) : (s.dividerAdvance c).b = s.b := by unfold State.dividerAdvance; split <;> simp
@[simp] theorem State.c_dividerAdvance (c : Nat) : (s.dividerAdvance c).c = s.c := by unfold State.dividerAdvance; split <;> simp
@[simp] theorem State.d_dividerAdvance (c : Nat) : (s.dividerAdvance c).d = s.d := by unfold State.dividerAdvance; split <;> simp
@[simp] theorem State.e_dividerAdvance (c : Nat) : (s.dividerAdvance c).e = s.e := by unfold State.dividerAdvance; split <;> simp
@[simp] theorem State.h_dividerAdvance (c : Nat) : (s.dividerAdvance c).h = s.h := by unfold State.dividerAdvance; split <;> simp
@[simp] theorem State.l_dividerAdvance (c : Nat) : (s.dividerAdvance c).l = s.l := by unfold State.dividerAdvance; split <;> simp
@[simp] theorem State.sp_dividerAdvance (c : Nat) : (s.dividerAdvance c).sp = s.sp := by unfold State.dividerAdvance; split <;> simp
@[simp] theorem State.pc_dividerAdvance (c : Nat) : (s.dividerAdvance c).pc = s.pc := by unfold State.dividerAdvance; split <;> simp
@[simp] theorem State.ime_dividerAdvance (c : Nat) : (s.dividerAdvance c).ime = s.ime := by unfold State.dividerAdvance; split <;> simp
@[simp] theorem State.halted_dividerAdvance (c : Nat) : (s.dividerAdvance c).halted = s.halted := by unfold State.dividerAdvance; split <;> simp
@[simp] theorem State.numCycles_dividerAdvance (c : Nat) : (s.dividerAdvance c).numCycles = s.numCycles := by unfold State.dividerAdvance; split <;> simp
@[simp] theorem State.fault_dividerAdvance (c : Nat) : (s.dividerAdvance c).fault = s.fault := by unfold State.dividerAdvance; split <;> simp
@[simp] theorem State.countdown_dividerAdvance (c : Nat) : (s.dividerAdvance c).countdown = s.countdown := by unfold State.dividerAdvance; split <;> simp
@[simp] theorem State.lineCounter_dividerAdvance (c : Nat) : (s.dividerAdvance c).lineCounter = s.lineCounter := by unfold State.dividerAdvance; split <;> simp
@[simp] theorem State.mode_dividerAdvance (c : Nat) : (s.dividerAdvance c).mode = s.mode := by unfold State.dividerAdvance; split <;> simp
@[simp] theorem State.linesRendered_dividerAdvance (c : Nat) : (s.dividerAdvance c).linesRendered = s.linesRendered := by unfold State.dividerAdvance; split <;> simp
@[simp] theorem State.bgSurface_dividerAdvance (c : Nat) : (s.dividerAdvance c).bgSurface = s.bgSurface := by unfold State.dividerAdvance; split <;> simp
@[simp] theorem State.winSurface_dividerAdvance (c : Nat) : (s.dividerAdvance c).winSurface = s.winSurface := by unfold State.dividerAdvance; split <;> simp
@[simp] theorem State.sprSurface_dividerAdvance (c : Nat) : (s.dividerAdvance c).sprSurface = s.sprSurface := by unfold State.dividerAdvance; split <;> simp
@[simp] theorem State.frameBuffer_dividerAdvance (c : Nat) : (s.dividerAdvance c).frameBuffer = s.frameBuffer := by unfold State.dividerAdvance; split <;> simp
@[simp] theorem State.frames_dividerAdvance (c : Nat) : (s.dividerAdvance c).frames = s.frames := by unfold State.dividerAdvance; split <;> simp

theorem State.dividerAdvance_wf {s : State} (c : Nat) (h : s.mem.wf = true) : (s.dividerAdvance c).mem.wf = true := by
  unfold State.dividerAdvance; split
  · exact State.memWrite_wf (s := s.setDivAcc 0) _ _ h
  · exact h

/-! ### `timaStep` -/

@[simp] theorem State.a_timaStep : (s.timaStep).a = s.a := by unfold State.timaStep; split <;> simp
@[simp] theorem State.f_timaStep : (s.timaStep).f = s.f := by unfold State.timaStep; split <;> simp
@[simp] theorem State.b_timaStep : (s.timaStep).b = s.b := by unfold State.timaStep; split <;> simp
@[simp] theorem State.c_timaStep : (s.timaStep).c = s.c := by unfold State.timaStep; split <;> simp
@[simp] theorem State.d_timaStep : (s.timaStep).d = s.d := by unfold State.timaStep; split <;> simp
@[simp] theorem State.e_timaStep : (s.timaStep).e = s.e := by unfold State.timaStep; split <;> simp
@[simp] theorem State.h_timaStep : (s.timaStep).h = s.h := by unfold State.timaStep; split <;> simp
@[simp] theorem State.l_timaStep : (s.timaStep).l = s.l := by unfold State.timaStep; split <;> simp
@[simp] theorem State.sp_timaStep : (s.timaStep).sp = s.sp := by unfold State.timaStep; split <;> simp
@[simp] theorem State.pc_timaStep : (s.timaStep).pc = s.pc := by unfold State.timaStep; split <;> simp
@[simp] theorem State.ime_timaStep : (s.timaStep).ime = s.ime := by unfold State.timaStep; split <;> simp
@[simp] theorem State.halted_timaStep : (s.timaStep).halted = s.halted := by unfold State.timaStep; split <;> simp
@[simp] theorem State.numCycles_timaStep : (s.timaStep).numCycles = s.numCycles := by unfold State.timaStep; split <;> simp
@[simp] theorem State.fault_timaStep : (s.timaStep).fault = s.fault := by unfold State.timaStep; split <;> simp
@[simp] theorem State.divAcc_timaStep : (s.timaStep).divAcc = s.divAcc := by unfold State.timaStep; split <;> simp
@[simp] theorem State.countdown_timaStep : (s.timaStep).countdown = s.countdown := by unfold State.timaStep; split <;> simp
@[simp] theorem State.lineCounter_timaStep : (s.timaStep).lineCounter = s.lineCounter := by unfold State.timaStep; split <;> simp
@[simp] theorem State.mode_timaStep : (s.timaStep).mode = s.mode := by unfold State.timaStep; split <;> simp
@[simp] theorem State.linesRendered_timaStep : (s.timaStep).linesRendered = s.linesRendered := by unfold State.timaStep; split <;> simp
@[simp] theorem State.bgSurface_timaStep : (s.timaStep).bgSurface = s.bgSurface := by unfold State.timaStep; split <;> simp
@[simp] theorem State.winSurface_timaStep : (s.timaStep).winSurface = s.winSurface := by unfold State.timaStep; split <;> simp
@[simp] theorem State.sprSurface_timaStep : (s.timaStep).sprSurface = s.sprSurface := by unfold State.timaStep; split <;> simp
@[simp] theorem State.frameBuffer_timaStep : (s.timaStep).frameBuffer = s.frameBuffer := by unfold State.timaStep; split <;> simp
@[simp] theorem State.frames_timaStep : (s.timaStep).frames = s.frames := by unfold State.timaStep; split <;> simp

theorem State.timaStep_wf {s : State} (h : s.mem.wf = true) : (s.timaStep).mem.wf = true := by
  unfold State.timaStep; split
  · exact State.request_wf _ (State.memWrite_wf _ _ h)
  · exact State.memWrite_wf _ _ h

/-! ### `countdownAdvance` -/

@[simp] theorem State.a_countdownAdvance (c : Nat) : (s.countdownAdvance c).a = s.a := by unfold State.countdownAdvance; dsimp only; (repeat' split) <;> simp
@[simp] theorem State.f_countdownAdvance (c : Nat) : (s.countdownAdvance c).f = s.f := by unfold State.countdownAdvance; dsimp only; (repeat' split) <;> simp
@[simp] theorem State.b_countdownAdvance (c : Nat) : (s.countdownAdvance c).b = s.b := by unfold State.countdownAdvance; dsimp only; (repeat' split) <;> simp
@[simp] theorem State.c_countdownAdvance (c : Nat) : (s.countdownAdvance c).c = s.c := by unfold State.countdownAdvance; dsimp only; (repeat' split) <;> simp
@[simp] theorem State.d_countdownAdvance (c : Nat) : (s.countdownAdvance c).d = s.d := by unfold State.countdownAdvance; dsimp only; (repeat' split) <;> simp
@[simp] theorem State.e_countdownAdvance (c : Nat) : (s.countdownAdvance c).e = s.e := by unfold State.countdownAdvance; dsimp only; (repeat' split) <;> simp
@[simp] theorem State.h_countdownAdvance (c : Nat) : (s.countdownAdvance c).h = s.h := by unfold State.countdownAdvance; dsimp only; (repeat' split) <;> simp
@[simp] theorem State.l_countdownAdvance (c : Nat) : (s.countdownAdvance c).l = s.l := by unfold State.countdownAdvance; dsimp only; (repeat' split) <;> simp
@[simp] theorem State.sp_countdownAdvance (c : Nat) : (s.countdownAdvance c).sp = s.sp := by unfold State.countdownAdvance; dsimp only; (repeat' split) <;> simp
@[simp] theorem State.pc_countdownAdvance (c : Nat) : (s.countdownAdvance c).pc = s.pc := by unfold State.countdownAdvance; dsimp only; (repeat' split) <;> simp
@[simp] theorem State.ime_countdownAdvance (c : Nat) : (s.countdownAdvance c).ime = s.ime := by unfold State.countdownAdvance; dsimp only; (repeat' split) <;> simp
@[simp] theorem State.halted_countdownAdvance (c : Nat) : (s.countdownAdvance c).halted = s.halted := by unfold State.countdownAdvance; dsimp only; (repeat' split) <;> simp
@[simp] theorem State.numCycles_countdownAdvance (c : Nat) : (s.countdownAdvance c).numCycles = s.numCycles := by unfold State.countdownAdvance; dsimp only; (repeat' split) <;> simp
@[simp] theorem State.fault_countdownAdvance (c : Nat) : (s.countdownAdvance c).fault = s.fault := by unfold State.countdownAdvance; dsimp only; (repeat' split) <;> simp
@[simp] theorem State.divAcc_countdownAdvance (c : Nat) : (s.countdownAdvance c).divAcc = s.divAcc := by unfold State.countdownAdvance; dsimp only; (repeat' split) <;> simp
@[simp] theorem State.lineCounter_countdownAdvance (c : Nat) : (s.countdownAdvance c).lineCounter = s.lineCounter := by unfold State.countdownAdvance; dsimp only; (repeat' split) <;> simp
@[simp] theorem State.mode_countdownAdvance (c : Nat) : (s.countdownAdvance c).mode = s.mode := by unfold State.countdownAdvance; dsimp only; (repeat' split) <;> simp
@[simp] theorem State.linesRendered_countdownAdvance (c : Nat) : (s.countdownAdvance c).linesRendered = s.linesRendered := by unfold State.countdownAdvance; dsimp only; (repeat' split) <;> simp
@[simp] theorem State.bgSurface_countdownAdvance (c : Nat) : (s.countdownAdvance c).bgSurface = s.bgSurface := by unfold State.countdownAdvance; dsimp only; (repeat' split) <;> simp
@[simp] theorem State.winSurface_countdownAdvance (c : Nat) : (s.countdownAdvance c).winSurface = s.winSurface := by unfold State.countdownAdvance; dsimp only; (repeat' split) <;> simp
@[simp] theorem State.sprSurface_countdownAdvance (c : Nat) : (s.countdownAdvance c).sprSurface = s.sprSurface := by unfold State.countdownAdvance; dsimp only; (repeat' split) <;> simp
@[simp] theorem State.frameBuffer_countdownAdvance (c : Nat) : (s.countdownAdvance c).frameBuffer = s.frameBuffer := by unfold State.countdownAdvance; dsimp only; (repeat' split) <;> simp
@[simp] theorem State.frames_countdownAdvance (c : Nat) : (s.countdownAdvance c).frames = s.frames := by unfold State.countdownAdvance; dsimp only; (repeat' split) <;> simp

theorem State.countdownAdvance_wf {s : State} (c : Nat) (h : s.mem.wf = true) : (s.countdownAdvance c).mem.wf = true := by
  unfold State.countdownAdvance; dsimp only; (repeat' split) <;> first | exact h | exact State.timaStep_wf (s := s.setCountdown _) h

/-! ### `timerAdvance` -/

@[simp] theorem State.a_timerAdvance (c : Nat) : (s.timerAdvance c).a = s.a := by simp [State.timerAdvance]
@[simp] theorem State.f_timerAdvance (c : Nat) : (s.timerAdvance c).f = s.f := by simp [State.timerAdvance]
@[simp] theorem State.b_timerAdvance (c : Nat) : (s.timerAdvance c).b = s.b := by simp [State.timerAdvance]
@[simp] theorem State.c_timerAdvance (c : Nat) : (s.timerAdvance c).c = s.c := by simp [State.timerAdvance]
@[simp] theorem State.d_timerAdvance (c : Nat) : (s.timerAdvance c).d = s.d := by simp [State.timerAdvance]
@[simp] theorem State.e_timerAdvance (c : Nat) : (s.timerAdvance c).e = s.e := by simp [State.timerAdvance]
@[simp] theorem State.h_timerAdvance (c : Nat) : (s.timerAdvance c).h = s.h := by simp [State.timerAdvance]
@[simp] theorem State.l_timerAdvance (c : Nat) : (s.timerAdvance c).l = s.l := by simp [State.timerAdvance]
@[simp] theorem State.sp_timerAdvance (c : Nat) : (s.timerAdvance c).sp = s.sp := by simp [State.timerAdvance]
@[simp] theorem State.pc_timerAdvance (c : Nat) : (s.timerAdvance c).pc = s.pc := by simp [State.timerAdvance]
@[simp] theorem State.ime_timerAdvance (c : Nat) : (s.timerAdvance c).ime = s.ime := by simp [State.timerAdvance]
@[simp] theorem State.halted_timerAdvance (c : Nat) : (s.timerAdvance c).halted = s.halted := by simp [State.timerAdvance]
@[simp] theorem State.numCycles_timerAdvance (c : Nat) : (s.timerAdvance c).numCycles = s.numCycles := by simp [State.timerAdvance]
@[simp] theorem State.fault_timerAdvance (c : Nat) : (s.timerAdvance c).fault = s.fault := by simp [State.timerAdvance]
@[simp] theorem State.lineCounter_timerAdvance (c : Nat) : (s.timerAdvance c).lineCounter = s.lineCounter := by simp [State.timerAdvance]
@[simp] theorem State.mode_timerAdvance (c : Nat) : (s.timerAdvance c).mode = s.mode := by simp [State.timerAdvance]
@[simp] theorem State.linesRendered_timerAdvance (c : Nat) : (s.timerAdvance c).linesRendered = s.linesRendered := by simp [State.timerAdvance]
@[simp] theorem State.bgSurface_timerAdvance (c : Nat) : (s.timerAdvance c).bgSurface = s.bgSurface := by simp [State.timerAdvance]
@[simp] theorem State.winSurface_timerAdvance (c : Nat) : (s.timerAdvance c).winSurface = s.winSurface := by simp [State.timerAdvance]
@[simp] theorem State.sprSurface_timerAdvance (c : Nat) : (s.timerAdvance c).sprSurface = s.sprSurface := by simp [State.timerAdvance]
@[simp] theorem State.frameBuffer_timerAdvance (c : Nat) : (s.timerAdvance c).frameBuffer = s.frameBuffer := by simp [State.timerAdvance]
@[simp] theorem State.frames_timerAdvance (c : Nat) : (s.timerAdvance c).frames = s.frames := by simp [State.timerAdvance]

theorem State.timerAdvance_wf {s : State} (c : Nat) (h : s.mem.wf = true) : (s.timerAdvance c).mem.wf = true := by
  exact State.countdownAdvance_wf c (State.dividerAdvance_wf c h)

/-! ### `renderLine` -/

@[simp] theorem State.a_renderLine (ly : Nat) : (s.renderLine ly).a = s.a := by rfl
@[simp] theorem State.f_renderLine (ly : Nat) : (s.renderLine ly).f = s.f := by rfl
@[simp] theorem State.b_renderLine (ly : Nat) : (s.renderLine ly).b = s.b := by rfl
@[simp] theorem State.c_renderLine (ly : Nat) : (s.renderLine ly).c = s.c := by rfl
@[simp] theorem State.d_renderLine (ly : Nat) : (s.renderLine ly).d = s.d := by rfl
@[simp] theorem State.e_renderLine (ly : Nat) : (s.renderLine ly).e = s.e := by rfl
@[simp] theorem State.h_renderLine (ly : Nat) : (s.renderLine ly).h = s.h := by rfl
@[simp] theorem State.l_renderLine (ly : Nat) : (s.renderLine ly).l = s.l := by rfl
@[simp] theorem State.sp_renderLine (ly : Nat) : (s.renderLine ly).sp = s.sp := by rfl
@[simp] theorem State.pc_renderLine (ly : Nat) : (s.renderLine ly).pc = s.pc := by rfl
@[simp] theorem State.ime_renderLine (ly : Nat) : (s.renderLine ly).ime = s.ime := by rfl
@[simp] theorem State.halted_renderLine (ly : Nat) : (s.renderLine ly).halted = s.halted := by rfl
@[simp] theorem State.numCycles_renderLine (ly : Nat) : (s.renderLine ly).numCycles = s.numCycles := by rfl
@[simp] theorem State.fault_renderLine (ly : Nat) : (s.renderLine ly).fault = s.fault := by rfl
@[simp] theorem State.mem_renderLine (ly : Nat) : (s.renderLine ly).mem = s.mem := by rfl
@[simp] theorem State.divAcc_renderLine (ly : Nat) : (s.renderLine ly).divAcc = s.divAcc := by rfl
@[simp] theorem State.countdown_renderLine (ly : Nat) : (s.renderLine ly).countdown = s.countdown := by rfl
@[simp] theorem State.lineCounter_renderLine (ly : Nat) : (s.renderLine ly).lineCounter = s.lineCounter := by rfl
@[simp] theorem State.mode_renderLine (ly : Nat) : (s.renderLine ly).mode = s.mode := by rfl
@[simp] theorem State.linesRendered_renderLine (ly : Nat) : (s.renderLine ly).linesRendered = s.linesRendered := by rfl
@[simp] theorem State.sprSurface_renderLine (ly : Nat) : (s.renderLine ly).sprSurface = s.sprSurface := by rfl
@[simp] theorem State.frameBuffer_renderLine (ly : Nat) : (s.renderLine ly).frameBuffer = s.frameBuffer := by rfl
@[simp] theorem State.frames_renderLine (ly : Nat) : (s.renderLine ly).frames = s.frames := by rfl

/-! ### `renderFrame` -/

@[simp] theorem State.a_renderFrame : (s.renderFrame).a = s.a := by rfl
@[simp] theorem State.f_renderFrame : (s.renderFrame).f = s.f := by rfl
@[simp] theorem State.b_renderFrame : (s.renderFrame).b = s.b := by rfl
@[simp] theorem State.c_renderFrame : (s.renderFrame).c = s.c := by rfl
@[simp] theorem State.d_renderFrame : (s.renderFrame).d = s.d := by rfl
@[simp] theorem State.e_renderFrame : (s.renderFrame).e = s.e := by rfl
@[simp] theorem State.h_renderFrame : (s.renderFrame).h = s.h := by rfl
@[simp] theorem State.l_renderFrame : (s.renderFrame).l = s.l := by rfl
@[simp] theorem State.sp_renderFrame : (s.renderFrame).sp = s.sp := by rfl
@[simp] theorem State.pc_renderFrame : (s.renderFrame).pc = s.pc := by rfl
@[simp] theorem State.ime_renderFrame : (s.renderFrame).ime = s.ime := by rfl
@[simp] theorem State.halted_renderFrame : (s.renderFrame).halted = s.halted := by rfl
@[simp] theorem State.numCycles_renderFrame : (s.renderFrame).numCycles = s.numCycles := by rfl
@[simp] theorem State.fault_renderFrame : (s.renderFrame).fault = s.fault := by rfl
@[simp] theorem State.mem_renderFrame : (s.renderFrame).mem = s.mem := by rfl
@[simp] theorem State.divAcc_renderFrame : (s.renderFrame).divAcc = s.divAcc := by rfl
@[simp] theorem State.countdown_renderFrame : (s.renderFrame).countdown = s.countdown := by rfl
@[simp] theorem State.lineCounter_renderFrame : (s.renderFrame).lineCounter = s.lineCounter := by rfl
@[simp] theorem State.mode_renderFrame : (s.renderFrame).mode = s.mode := by rfl
@[simp] theorem State.linesRendered_renderFrame : (s.renderFrame).linesRendered = s.linesRendered := by rfl
@[simp] theorem State.bgSurface_renderFrame : (s.renderFrame).bgSurface = s.bgSurface := by rfl
@[simp] theorem State.winSurface_renderFrame : (s.renderFrame).winSurface = s.winSurface := by rfl

/-! ### `vblankEntry` -/

@[simp] theorem State.a_vblankEntry : (s.vblankEntry).a = s.a := by unfold State.vblankEntry; dsimp only; split <;> simp
@[simp] theorem State.f_vblankEntry : (s.vblankEntry).f = s.f := by unfold State.vblankEntry; dsimp only; split <;> simp
@[simp] theorem State.b_vblankEntry : (s.vblankEntry).b = s.b := by unfold State.vblankEntry; dsimp only; split <;> simp
@[simp] theorem State.c_vblankEntry : (s.vblankEntry).c = s.c := by unfold State.vblankEntry; dsimp only; split <;> simp
@[simp] theorem State.d_vblankEntry : (s.vblankEntry).d = s.d := by unfold State.vblankEntry; dsimp only; split <;> simp
@[simp] theorem State.e_vblankEntry : (s.vblankEntry).e = s.e := by unfold State.vblankEntry; dsimp only; split <;> simp
@[simp] theorem State.h_vblankEntry : (s.vblankEntry).h = s.h := by unfold State.vblankEntry; dsimp only; split <;> simp
@[simp] theorem State.l_vblankEntry : (s.vblankEntry).l = s.l := by unfold State.vblankEntry; dsimp only; split <;> simp
@[simp] theorem State.sp_vblankEntry : (s.vblankEntry).sp = s.sp := by unfold State.vblankEntry; dsimp only; split <;> simp
@[simp] theorem State.pc_vblankEntry : (s.vblankEntry).pc = s.pc := by unfold State.vblankEntry; dsimp only; split <;> simp
@[simp] theorem State.ime_vblankEntry : (s.vblankEntry).ime = s.ime := by unfold State.vblankEntry; dsimp only; split <;> simp
@[simp] theorem State.halted_vblankEntry : (s.vblankEntry).halted = s.halted := by unfold State.vblankEntry; dsimp only; split <;> simp
@[simp] theorem State.numCycles_vblankEntry : (s.vblankEntry).numCycles = s.numCycles := by unfold State.vblankEntry; dsimp only; split <;> simp
@[simp] theorem State.fault_vblankEntry : (s.vblankEntry).fault = s.fault := by unfold State.vblankEntry; dsimp only; split <;> simp
@[simp] theorem State.divAcc_vblankEntry : (s.vblankEntry).divAcc = s.divAcc := by unfold State.vblankEntry; dsimp only; split <;> simp
@[simp] theorem State.countdown_vblankEntry : (s.vblankEntry).countdown = s.countdown := by unfold State.vblankEntry; dsimp only; split <;> simp
@[simp] theorem State.lineCounter_vblankEntry : (s.vblankEntry).lineCounter = s.lineCounter := by unfold State.vblankEntry; dsimp only; split <;> simp
@[simp] theorem State.mode_vblankEntry : (s.vblankEntry).mode = s.mode := by unfold State.vblankEntry; dsimp only; split <;> simp
@[simp] theorem State.linesRendered_vblankEntry : (s.vblankEntry).linesRendered = s.linesRendered := by unfold State.vblankEntry; dsimp only; split <;> simp
@[simp] theorem State.bgSurface_vblankEntry : (s.vblankEntry).bgSurface = s.bgSurface := by unfold State.vblankEntry; dsimp only; split <;> simp
@[simp] theorem State.winSurface_vblankEntry : (s.vblankEntry).winSurface = s.winSurface := by unfold State.vblankEntry; dsimp only; split <;> simp

theorem State.vblankEntry_wf {s : State} (h : s.mem.wf = true) : (s.vblankEntry).mem.wf = true := by
  unfold State.vblankEntry; dsimp only; split
  · rw [State.mem_renderFrame]; exact State.request_wf _ h
  · exact State.request_wf _ h

/-! ### `lineChange` -/

@[simp] theorem State.a_lineChange : (s.lineChange).a = s.a := by unfold State.lineChange; dsimp only; (repeat' split) <;> simp
@[simp] theorem State.f_lineChange : (s.lineChange).f = s.f := by unfold State.lineChange; dsimp only; (repeat' split) <;> simp
@[simp] theorem State.b_lineChange : (s.lineChange).b = s.b := by unfold State.lineChange; dsimp only; (repeat' split) <;> simp
@[simp] theorem State.c_lineChange : (s.lineChange).c = s.c := by unfold State.lineChange; dsimp only; (repeat' split) <;> simp
@[simp] theorem State.d_lineChange : (s.lineChange).d = s.d := by unfold State.lineChange; dsimp only; (repeat' split) <;> simp
@[simp] theorem State.e_lineChange : (s.lineChange).e = s.e := by unfold State.lineChange; dsimp only; (repeat' split) <;> simp
@[simp] theorem State.h_lineChange : (s.lineChange).h = s.h := by unfold State.lineChange; dsimp only; (repeat' split) <;> simp
@[simp] theorem State.l_lineChange : (s.lineChange).l = s.l := by unfold State.lineChange; dsimp only; (repeat' split) <;> simp
@[simp] theorem State.sp_lineChange : (s.lineChange).sp = s.sp := by unfold State.lineChange; dsimp only; (repeat' split) <;> simp
@[simp] theorem State.pc_lineChange : (s.lineChange).pc = s.pc := by unfold State.lineChange; dsimp only; (repeat' split) <;> simp
@[simp] theorem State.ime_lineChange : (s.lineChange).ime = s.ime := by unfold State.lineChange; dsimp only; (repeat' split) <;> simp
@[simp] theorem State.halted_lineChange : (s.lineChange).halted = s.halted := by unfold State.lineChange; dsimp only; (repeat' split) <;> simp
@[simp] theorem State.numCycles_lineChange : (s.lineChange).numCycles = s.numCycles := by unfold State.lineChange; dsimp only; (repeat' split) <;> simp
@[simp] theorem State.fault_lineChange : (s.lineChange).fault = s.fault := by unfold State.lineChange; dsimp only; (repeat' split) <;> simp
@[simp] theorem State.divAcc_lineChange : (s.lineChange).divAcc = s.divAcc := by unfold State.lineChange; dsimp only; (repeat' split) <;> simp
@[simp] theorem State.countdown_lineChange : (s.lineChange).countdown = s.countdown := by unfold State.lineChange; dsimp only; (repeat' split) <;> simp
@[simp] theorem State.lineCounter_lineChange : (s.lineChange).lineCounter = s.lineCounter := by unfold State.lineChange; dsimp only; (repeat' split) <;> simp
@[simp] theorem State.mode_lineChange : (s.lineChange).mode = s.mode := by unfold State.lineChange; dsimp only; (repeat' split) <;> simp
@[simp] theorem State.bgSurface_lineChange : (s.lineChange).bgSurface = s.bgSurface := by unfold State.lineChange; dsimp only; (repeat' split) <;> simp
@[simp] theorem State.winSurface_lineChange : (s.lineChange).winSurface = s.winSurface := by unfold State.lineChange; dsimp only; (repeat' split) <;> simp

theorem State.lineChange_wf {s : State} (h : s.mem.wf = true) : (s.lineChange).mem.wf = true := by
  have h1 := State.memWrite_wf Params.ly (nextLine (s.memRead Params.ly)) h
  unfold State.lineChange; dsimp only; (repeat' split) <;> first | exact h1 | exact State.vblankEntry_wf h1

/-! ### `lineAdvance` -/

@[simp] theorem State.a_lineAdvance (c : Nat) : (s.lineAdvance c).a = s.a := by unfold State.lineAdvance; dsimp only; split <;> simp
@[simp] theorem State.f_lineAdvance (c : Nat) : (s.lineAdvance c).f = s.f := by unfold State.lineAdvance; dsimp only; split <;> simp
@[simp] theorem State.b_lineAdvance (c : Nat) : (s.lineAdvance c).b = s.b := by unfold State.lineAdvance; dsimp only; split <;> simp
@[simp] theorem State.c_lineAdvance (c : Nat) : (s.lineAdvance c).c = s.c := by unfold State.lineAdvance; dsimp only; split <;> simp
@[simp] theorem State.d_lineAdvance (c : Nat) : (s.lineAdvance c).d = s.d := by unfold State.lineAdvance; dsimp only; split <;> simp
@[simp] theorem State.e_lineAdvance (c : Nat) : (s.lineAdvance c).e = s.e := by unfold State.lineAdvance; dsimp only; split <;> simp
@[simp] theorem State.h_lineAdvance (c : Nat) : (s.lineAdvance c).h = s.h := by unfold State.lineAdvance; dsimp only; split <;> simp
@[simp] theorem State.l_lineAdvance (c : Nat) : (s.lineAdvance c).l = s.l := by unfold State.lineAdvance; dsimp only; split <;> simp
@[simp] theorem State.sp_lineAdvance (c : Nat) : (s.lineAdvance c).sp = s.sp := by unfold State.lineAdvance; dsimp only; split <;> simp
@[simp] theorem State.pc_lineAdvance (c : Nat) : (s.lineAdvance c).pc = s.pc := by unfold State.lineAdvance; dsimp only; split <;> simp
@[simp] theorem State.ime_lineAdvance (c : Nat) : (s.lineAdvance c).ime = s.ime := by unfold State.lineAdvance; dsimp only; split <;> simp
@[simp] theorem State.halted_lineAdvance (c : Nat) : (s.lineAdvance c).halted = s.halted := by unfold State.lineAdvance; dsimp only; split <;> simp
@[simp] theorem State.numCycles_lineAdvance (c : Nat) : (s.lineAdvance c).numCycles = s.numCycles := by unfold State.lineAdvance; dsimp only; split <;> simp
@[simp] theorem State.fault_lineAdvance (c : Nat) : (s.lineAdvance c).fault = s.fault := by unfold State.lineAdvance; dsimp only; split <;> simp
@[simp] theorem State.divAcc_lineAdvance (c : Nat) : (s.lineAdvance c).divAcc = s.divAcc := by unfold State.lineAdvance; dsimp only; split <;> simp
@[simp] theorem State.countdown_lineAdvance (c : Nat) : (s.lineAdvance c).countdown = s.countdown := by unfold State.lineAdvance; dsimp only; split <;> simp
@[simp] theorem State.mode_lineAdvance (c : Nat) : (s.lineAdvance c).mode = s.mode := by unfold State.lineAdvance; dsimp only; split <;> simp
@[simp] theorem State.bgSurface_lineAdvance (c : Nat) : (s.lineAdvance c).bgSurface = s.bgSurface := by unfold State.lineAdvance; dsimp only; split <;> simp
@[simp] theorem State.winSurface_lineAdvance (c : Nat) : (s.lineAdvance c).winSurface = s.winSurface := by unfold State.lineAdvance; dsimp only; split <;> simp

theorem State.lineAdvance_wf {s : State} (c : Nat) (h : s.mem.wf = true) : (s.lineAdvance c).mem.wf = true := by
  unfold State.lineAdvance; dsimp only; split
  · exact State.lineChange_wf (s := s.setLineCounter _) h
  · exact h

/-! ### `modeChange` -/

@[simp] theorem State.a_modeChange (m : LcdMode) : (s.modeChange m).a = s.a := by unfold State.modeChange; dsimp only; (repeat' split) <;> simp
@[simp] theorem State.f_modeChange (m : LcdMode) : (s.modeChange m).f = s.f := by unfold State.modeChange; dsimp only; (repeat' split) <;> simp
@[simp] theorem State.b_modeChange (m : LcdMode) : (s.modeChange m).b = s.b := by unfold State.modeChange; dsimp only; (repeat' split) <;> simp
@[simp] theorem State.c_modeChange (m : LcdMode) : (s.modeChange m).c = s.c := by unfold State.modeChange; dsimp only; (repeat' split) <;> simp
@[simp] theorem State.d_modeChange (m : LcdMode) : (s.modeChange m).d = s.d := by unfold State.modeChange; dsimp only; (repeat' split) <;> simp
@[simp] theorem State.e_modeChange (m : LcdMode) : (s.modeChange m).e = s.e := by unfold State.modeChange; dsimp only; (repeat' split) <;> simp
@[simp] theorem State.h_modeChange (m : LcdMode) : (s.modeChange m).h = s.h := by unfold State.modeChange; dsimp only; (repeat' split) <;> simp
@[simp] theorem State.l_modeChange (m : LcdMode) : (s.modeChange m).l = s.l := by unfold State.modeChange; dsimp only; (repeat' split) <;> simp
@[simp] theorem State.sp_modeChange (m : LcdMode) : (s.modeChange m).sp = s.sp := by unfold State.modeChange; dsimp only; (repeat' split) <;> simp
@[simp] theorem State.pc_modeChange (m : LcdMode) : (s.modeChange m).pc = s.pc := by unfold State.modeChange; dsimp only; (repeat' split) <;> simp
@[simp] theorem State.ime_modeChange (m : LcdMode) : (s.modeChange m).ime = s.ime := by unfold State.modeChange; dsimp only; (repeat' split) <;> simp
@[simp] theorem State.halted_modeChange (m : LcdMode) : (s.modeChange m).halted = s.halted := by unfold State.modeChange; dsimp only; (repeat' split) <;> simp
@[simp] theorem State.numCycles_modeChange (m : LcdMode) : (s.modeChange m).numCycles = s.numCycles := by unfold State.modeChange; dsimp only; (repeat' split) <;> simp
@[simp] theorem State.fault_modeChange (m : LcdMode) : (s.modeChange m).fault = s.fault := by unfold State.modeChange; dsimp only; (repeat' split) <;> simp
@[simp] theorem State.divAcc_modeChange (m : LcdMode) : (s.modeChange m).divAcc = s.divAcc := by unfold State.modeChange; dsimp only; (repeat' split) <;> simp
@[simp] theorem State.countdown_modeChange (m : LcdMode) : (s.modeChange m).countdown = s.countdown := by unfold State.modeChange; dsimp only; (repeat' split) <;> simp
@[simp] theorem State.lineCounter_modeChange (m : LcdMode) : (s.modeChange m).lineCounter = s.lineCounter := by unfold State.modeChange; dsimp only; (repeat' split) <;> simp
@[simp] theorem State.sprSurface_modeChange (m : LcdMode) : (s.modeChange m).sprSurface = s.sprSurface := by unfold State.modeChange; dsimp only; (repeat' split) <;> simp
@[simp] theorem State.frameBuffer_modeChange (m : LcdMode) : (s.modeChange m).frameBuffer = s.frameBuffer := by unfold State.modeChange; dsimp only; (repeat' split) <;> simp
@[simp] theorem State.frames_modeChange (m : LcdMode) : (s.modeChange m).frames = s.frames := by unfold State.modeChange; dsimp only; (repeat' split) <;> simp

theorem State.modeChange_wf {s : State} (m : LcdMode) (h : s.mem.wf = true) : (s.modeChange m).mem.wf = true := by
  have h1 := State.request_wf (s := s.setMode m) .lcdStat h
  unfold State.modeChange; dsimp only
  (repeat' split) <;>
    ((try simp only [State.mem_setLinesRendered, State.mem_renderLine]); first | exact h1 | exact h)

@[simp] theorem State.mode_modeChange (m : LcdMode) : (s.modeChange m).mode = m := by
  unfold State.modeChange; dsimp only; (repeat' split) <;> simp

/-! ### `modeAdvance` -/

@[simp] theorem State.a_modeAdvance : (s.modeAdvance).a = s.a := by unfold State.modeAdvance; dsimp only; split <;> simp
@[simp] theorem State.f_modeAdvance : (s.modeAdvance).f = s.f := by unfold State.modeAdvance; dsimp only; split <;> simp
@[simp] theorem State.b_modeAdvance : (s.modeAdvance).b = s.b := by unfold State.modeAdvance; dsimp only; split <;> simp
@[simp] theorem State.c_modeAdvance : (s.modeAdvance).c = s.c := by unfold State.modeAdvance; dsimp only; split <;> simp
@[simp] theorem State.d_modeAdvance : (s.modeAdvance).d = s.d := by unfold State.modeAdvance; dsimp only; split <;> simp
@[simp] theorem State.e_modeAdvance : (s.modeAdvance).e = s.e := by unfold State.modeAdvance; dsimp only; split <;> simp
@[simp] theorem State.h_modeAdvance : (s.modeAdvance).h = s.h := by unfold State.modeAdvance; dsimp only; split <;> simp
@[simp] theorem State.l_modeAdvance : (s.modeAdvance).l = s.l := by unfold State.modeAdvance; dsimp only; split <;> simp
@[simp] theorem State.sp_modeAdvance : (s.modeAdvance).sp = s.sp := by unfold State.modeAdvance; dsimp only; split <;> simp
@[simp] theorem State.pc_modeAdvance : (s.modeAdvance).pc = s.pc := by unfold State.modeAdvance; dsimp only; split <;> simp
@[simp] theorem State.ime_modeAdvance : (s.modeAdvance).ime = s.ime := by unfold State.modeAdvance; dsimp only; split <;> simp
@[simp] theorem State.halted_modeAdvance : (s.modeAdvance).halted = s.halted := by unfold State.modeAdvance; dsimp only; split <;> simp
@[simp] theorem State.numCycles_modeAdvance : (s.modeAdvance).numCycles = s.numCycles := by unfold State.modeAdvance; dsimp only; split <;> simp
@[simp] theorem State.fault_modeAdvance : (s.modeAdvance).fault = s.fault := by unfold State.modeAdvance; dsimp only; split <;> simp
@[simp] theorem State.divAcc_modeAdvance : (s.modeAdvance).divAcc = s.divAcc := by unfold State.modeAdvance; dsimp only; split <;> simp
@[simp] theorem State.countdown_modeAdvance : (s.modeAdvance).countdown = s.countdown := by unfold State.modeAdvance; dsimp only; split <;> simp
@[simp] theorem State.lineCounter_modeAdvance : (s.modeAdvance).lineCounter = s.lineCounter := by unfold State.modeAdvance; dsimp only; split <;> simp
@[simp] theorem State.sprSurface_modeAdvance : (s.modeAdvance).sprSurface = s.sprSurface := by unfold State.modeAdvance; dsimp only; split <;> simp
@[simp] theorem State.frameBuffer_modeAdvance : (s.modeAdvance).frameBuffer = s.frameBuffer := by unfold State.modeAdvance; dsimp only; split <;> simp
@[simp] theorem State.frames_modeAdvance : (s.modeAdvance).frames = s.frames := by unfold State.modeAdvance; dsimp only; split <;> simp

theorem State.modeAdvance_wf {s : State} (h : s.mem.wf = true) : (s.modeAdvance).mem.wf = true := by
  unfold State.modeAdvance; dsimp only; split
  · exact State.memWrite_wf _ _ (State.modeChange_wf _ h)
  · exact State.memWrite_wf _ _ h

/-! ### `lineCompare` -/

@[simp] theorem State.a_lineCompare : (s.lineCompare).a = s.a := by unfold State.lineCompare; dsimp only; (repeat' split) <;> simp
@[simp] theorem State.f_lineCompare : (s.lineCompare).f = s.f := by unfold State.lineCompare; dsimp only; (repeat' split) <;> simp
@[simp] theorem State.b_lineCompare : (s.lineCompare).b = s.b := by unfold State.lineCompare; dsimp only; (repeat' split) <;> simp
@[simp] theorem State.c_lineCompare : (s.lineCompare).c = s.c := by unfold State.lineCompare; dsimp only; (repeat' split) <;> simp
@[simp] theorem State.d_lineCompare : (s.lineCompare).d = s.d := by unfold State.lineCompare; dsimp only; (repeat' split) <;> simp
@[simp] theorem State.e_lineCompare : (s.lineCompare).e = s.e := by unfold State.lineCompare; dsimp only; (repeat' split) <;> simp
@[simp] theorem State.h_lineCompare : (s.lineCompare).h = s.h := by unfold State.lineCompare; dsimp only; (repeat' split) <;> simp
@[simp] theorem State.l_lineCompare : (s.lineCompare).l = s.l := by unfold State.lineCompare; dsimp only; (repeat' split) <;> simp
@[simp] theorem State.sp_lineCompare : (s.lineCompare).sp = s.sp := by unfold State.lineCompare; dsimp only; (repeat' split) <;> simp
@[simp] theorem State.pc_lineCompare : (s.lineCompare).pc = s.pc := by unfold State.lineCompare; dsimp only; (repeat' split) <;> simp
@[simp] theorem State.ime_lineCompare : (s.lineCompare).ime = s.ime := by unfold State.lineCompare; dsimp only; (repeat' split) <;> simp
@[simp] theorem State.halted_lineCompare : (s.lineCompare).halted = s.halted := by unfold State.lineCompare; dsimp only; (repeat' split) <;> simp
@[simp] theorem State.numCycles_lineCompare : (s.lineCompare).numCycles = s.numCycles := by unfold State.lineCompare; dsimp only; (repeat' split) <;> simp
@[simp] theorem State.fault_lineCompare : (s.lineCompare).fault = s.fault := by unfold State.lineCompare; dsimp only; (repeat' split) <;> simp
@[simp] theorem State.divAcc_lineCompare : (s.lineCompare).divAcc = s.divAcc := by unfold State.lineCompare; dsimp only; (repeat' split) <;> simp
@[simp] theorem State.countdown_lineCompare : (s.lineCompare).countdown = s.countdown := by unfold State.lineCompare; dsimp only; (repeat' split) <;> simp
@[simp] theorem State.lineCounter_lineCompare : (s.lineCompare).lineCounter = s.lineCounter := by unfold State.lineCompare; dsimp only; (repeat' split) <;> simp
@[simp] theorem State.mode_lineCompare : (s.lineCompare).mode = s.mode := by unfold State.lineCompare; dsimp only; (repeat' split) <;> simp
@[simp] theorem State.linesRendered_lineCompare : (s.lineCompare).linesRendered = s.linesRendered := by unfold State.lineCompare; dsimp only; (repeat' split) <;> simp
@[simp] theorem State.bgSurface_lineCompare : (s.lineCompare).bgSurface = s.bgSurface := by unfold State.lineCompare; dsimp only; (repeat' split) <;> simp
@[simp] theorem State.winSurface_lineCompare : (s.lineCompare).winSurface = s.winSurface := by unfold State.lineCompare; dsimp only; (repeat' split) <;> simp
@[simp] theorem State.sprSurface_lineCompare : (s.lineCompare).sprSurface = s.sprSurface := by unfold State.lineCompare; dsimp only; (repeat' split) <;> simp
@[simp] theorem State.frameBuffer_lineCompare : (s.lineCompare).frameBuffer = s.frameBuffer := by unfold State.lineCompare; dsimp only; (repeat' split) <;> simp
@[simp] theorem State.frames_lineCompare : (s.lineCompare).frames = s.frames := by unfold State.lineCompare; dsimp only; (repeat' split) <;> simp

theorem State.lineCompare_wf {s : State} (h : s.mem.wf = true) : (s.lineCompare).mem.wf = true := by
  have h1 := State.memWrite_wf Params.stat (s.memRead Params.stat ||| 0x04) h
  unfold State.lineCompare; dsimp only; (repeat' split)
  · exact State.request_wf _ h1
  · exact h1
  · exact State.memWrite_wf _ _ h

/-- Under the default parameter every line-compare match requests (decision D21). -/
@[simp] theorem lineMatchRequests_eq (matched : Bool) : lineMatchRequests matched = true := rfl

/-- The line compare under the default parameter: the request is level-sensitive (R357). -/
theorem State.lineCompare_eq :
    s.lineCompare =
      if s.memRead Params.ly = s.memRead Params.lyc then
        let t := s.memWrite Params.stat (s.memRead Params.stat ||| 0x04)
        if (t.memRead Params.stat).getLsbD 6 then t.request .lcdStat else t
      else s.memWrite Params.stat (s.memRead Params.stat &&& 0xFB) := by
  unfold State.lineCompare; simp only [lineMatchRequests_eq, Bool.and_true, State.cellRead_eq, State.cellWrite_eq]

/-- Under the default parameter LCDC bit 7 is not consulted (decision D22). -/
theorem State.ppuAdvance_eq (c : Nat) : s.ppuAdvance c = (s.lineAdvance c).modeAdvance.lineCompare := rfl

/-! ### `ppuAdvance` -/

@[simp] theorem State.a_ppuAdvance (c : Nat) : (s.ppuAdvance c).a = s.a := by simp [State.ppuAdvance_eq]
@[simp] theorem State.f_ppuAdvance (c : Nat) : (s.ppuAdvance c).f = s.f := by simp [State.ppuAdvance_eq]
@[simp] theorem State.b_ppuAdvance (c : Nat) : (s.ppuAdvance c).b = s.b := by simp [State.ppuAdvance_eq]
@[simp] theorem State.c_ppuAdvance (c : Nat) : (s.ppuAdvance c).c = s.c := by simp [State.ppuAdvance_eq]
@[simp] theorem State.d_ppuAdvance (c : Nat) : (s.ppuAdvance c).d = s.d := by simp [State.ppuAdvance_eq]
@[simp] theorem State.e_ppuAdvance (c : Nat) : (s.ppuAdvance c).e = s.e := by simp [State.ppuAdvance_eq]
@[simp] theorem State.h_ppuAdvance (c : Nat) : (s.ppuAdvance c).h = s.h := by simp [State.ppuAdvance_eq]
@[simp] theorem State.l_ppuAdvance (c : Nat) : (s.ppuAdvance c).l = s.l := by simp [State.ppuAdvance_eq]
@[simp] theorem State.sp_ppuAdvance (c : Nat) : (s.ppuAdvance c).sp = s.sp := by simp [State.ppuAdvance_eq]
@[simp] theorem State.pc_ppuAdvance (c : Nat) : (s.ppuAdvance c).pc = s.pc := by simp [State.ppuAdvance_eq]
@[simp] theorem State.ime_ppuAdvance (c : Nat) : (s.ppuAdvance c).ime = s.ime := by simp [State.ppuAdvance_eq]
@[simp] theorem State.halted_ppuAdvance (c : Nat) : (s.ppuAdvance c).halted = s.halted := by simp [State.ppuAdvance_eq]
@[simp] theorem State.numCycles_ppuAdvance (c : Nat) : (s.ppuAdvance c).numCycles = s.numCycles := by simp [State.ppuAdvance_eq]
@[simp] theorem State.fault_ppuAdvance (c : Nat) : (s.ppuAdvance c).fault = s.fault := by simp [State.ppuAdvance_eq]
@[simp] theorem State.divAcc_ppuAdvance (c : Nat) : (s.ppuAdvance c).divAcc = s.divAcc := by simp [State.ppuAdvance_eq]
@[simp] theorem State.countdown_ppuAdvance (c : Nat) : (s.ppuAdvance c).countdown = s.countdown := by simp [State.ppuAdvance_eq]

theorem State.ppuAdvance_wf {s : State} (c : Nat) (h : s.mem.wf = true) : (s.ppuAdvance c).mem.wf = true := by
  exact State.lineCompare_wf (State.modeAdvance_wf (State.lineAdvance_wf c h))

/-! ### `unhalt` -/

@[simp] theorem State.a_unhalt : (s.unhalt).a = s.a := by rfl
@[simp] theorem State.f_unhalt : (s.unhalt).f = s.f := by rfl
@[simp] theorem State.b_unhalt : (s.unhalt).b = s.b := by rfl
@[simp] theorem State.c_unhalt : (s.unhalt).c = s.c := by rfl
@[simp] theorem State.d_unhalt : (s.unhalt).d = s.d := by rfl
@[simp] theorem State.e_unhalt : (s.unhalt).e = s.e := by rfl
@[simp] theorem State.h_unhalt : (s.unhalt).h = s.h := by rfl
@[simp] theorem State.l_unhalt : (s.unhalt).l = s.l := by rfl
@[simp] theorem State.sp_unhalt : (s.unhalt).sp = s.sp := by rfl
@[simp] theorem State.ime_unhalt : (s.unhalt).ime = s.ime := by rfl
@[simp] theorem State.numCycles_unhalt : (s.unhalt).numCycles = s.numCycles := by rfl
@[simp] theorem State.fault_unhalt : (s.unhalt).fault = s.fault := by rfl
@[simp] theorem State.mem_unhalt : (s.unhalt).mem = s.mem := by rfl
@[simp] theorem State.divAcc_unhalt : (s.unhalt).divAcc = s.divAcc := by rfl
@[simp] theorem State.countdown_unhalt : (s.unhalt).countdown = s.countdown := by rfl
@[simp] theorem State.lineCounter_unhalt : (s.unhalt).lineCounter = s.lineCounter := by rfl
@[simp] theorem State.mode_unhalt : (s.unhalt).mode = s.mode := by rfl
@[simp] theorem State.linesRendered_unhalt : (s.unhalt).linesRendered = s.linesRendered := by rfl
@[simp] theorem State.bgSurface_unhalt : (s.unhalt).bgSurface = s.bgSurface := by rfl
@[simp] theorem State.winSurface_unhalt : (s.unhalt).winSurface = s.winSurface := by rfl
@[simp] theorem State.sprSurface_unhalt : (s.unhalt).sprSurface = s.sprSurface := by rfl
@[simp] theorem State.frameBuffer_unhalt : (s.unhalt).frameBuffer = s.frameBuffer := by rfl
@[simp] theorem State.frames_unhalt : (s.unhalt).frames = s.frames := by rfl

/-! ### TIMER, PPU and IC on the default bus

The definitions reach a register's cell past the bus (20_memory.md R77); on the default bus that is a bus access, the form
the other lemmas of memory are stated in. -/

theorem State.dividerAdvance_eq (c : Nat) :
    s.dividerAdvance c =
      if s.divAcc + c ≥ 256 then (s.setDivAcc 0).memWrite Params.div (s.memRead Params.div + 1)
      else s.setDivAcc (s.divAcc + c) := rfl

theorem State.timaStep_eq :
    s.timaStep =
      if s.memRead Params.tima = 255 then (s.memWrite Params.tima (s.memRead Params.tma)).request .timer
      else s.memWrite Params.tima (s.memRead Params.tima + 1) := rfl

theorem State.countdownAdvance_eq (c : Nat) :
    s.countdownAdvance c =
      if (s.memRead Params.tac).getLsbD 2 then
        if s.countdown - (c : Int) ≤ 0 then
          (s.setCountdown (Params.period (s.memRead Params.tac) : Int)).timaStep
        else s.setCountdown (s.countdown - (c : Int))
      else s := rfl

theorem State.lineChange_eq :
    s.lineChange =
      let t := s.memWrite Params.ly (nextLine (s.memRead Params.ly))
      let t := if (s.memRead Params.ly).toNat + 1 > 153 then t.setLinesRendered 0 else t
      if t.memRead Params.ly = 144 then t.vblankEntry else t := rfl

theorem State.modeChange_eq (m : LcdMode) :
    s.modeChange m =
      let t := s.setMode m
      let t := if modeEnabled m (t.memRead Params.stat) then t.request .lcdStat else t
      let ly := (t.memRead Params.ly).toNat
      if m = .hblank ∧ ly < 144 ∧ t.linesRendered < 144 then
        (t.renderLine ly).setLinesRendered (t.linesRendered + 1)
      else t := rfl

theorem State.modeAdvance_eq :
    s.modeAdvance =
      let m := modeOf (s.memRead Params.ly) s.lineCounter
      let t := if m ≠ s.mode then s.modeChange m else s
      t.memWrite Params.stat ((t.memRead Params.stat &&& 0xFC) ||| modeCode t.mode) := rfl

theorem State.pendingEnabled_eq :
    s.pendingEnabled = s.memRead Params.intFlag &&& s.memRead Params.intEnable &&& 0x1F := rfl

@[simp] theorem State.chargeDispatch_eq : s.chargeDispatch = s := rfl

/-- What a servicing round can be: nothing, an un-halt, a dispatch, or both, un-halt first (R322 to R324, R326). -/
theorem State.servicePending_cases :
    ∃ t, (t = s ∨ t = s.unhalt) ∧ (s.servicePending = t ∨ ∃ src, s.servicePending = t.takeInterrupt src) := by
  unfold State.servicePending
  refine ⟨if s.halted && s.pendingEnabled != 0 then s.unhalt else s, ?_, ?_⟩
  · split
    · exact .inr rfl
    · exact .inl rfl
  · dsimp only
    split
    · exact .inr ⟨_, rfl⟩
    · exact .inl rfl

/-! ### `servicePending` -/

@[simp] theorem State.a_servicePending : (s.servicePending).a = s.a := by obtain ⟨t, rfl | rfl, h | ⟨src, h⟩⟩ := s.servicePending_cases <;> simp [h]
@[simp] theorem State.f_servicePending : (s.servicePending).f = s.f := by obtain ⟨t, rfl | rfl, h | ⟨src, h⟩⟩ := s.servicePending_cases <;> simp [h]
@[simp] theorem State.b_servicePending : (s.servicePending).b = s.b := by obtain ⟨t, rfl | rfl, h | ⟨src, h⟩⟩ := s.servicePending_cases <;> simp [h]
@[simp] theorem State.c_servicePending : (s.servicePending).c = s.c := by obtain ⟨t, rfl | rfl, h | ⟨src, h⟩⟩ := s.servicePending_cases <;> simp [h]
@[simp] theorem State.d_servicePending : (s.servicePending).d = s.d := by obtain ⟨t, rfl | rfl, h | ⟨src, h⟩⟩ := s.servicePending_cases <;> simp [h]
@[simp] theorem State.e_servicePending : (s.servicePending).e = s.e := by obtain ⟨t, rfl | rfl, h | ⟨src, h⟩⟩ := s.servicePending_cases <;> simp [h]
@[simp] theorem State.h_servicePending : (s.servicePending).h = s.h := by obtain ⟨t, rfl | rfl, h | ⟨src, h⟩⟩ := s.servicePending_cases <;> simp [h]
@[simp] theorem State.l_servicePending : (s.servicePending).l = s.l := by obtain ⟨t, rfl | rfl, h | ⟨src, h⟩⟩ := s.servicePending_cases <;> simp [h]
@[simp] theorem State.numCycles_servicePending : (s.servicePending).numCycles = s.numCycles := by obtain ⟨t, rfl | rfl, h | ⟨src, h⟩⟩ := s.servicePending_cases <;> simp [h]
@[simp] theorem State.fault_servicePending : (s.servicePending).fault = s.fault := by obtain ⟨t, rfl | rfl, h | ⟨src, h⟩⟩ := s.servicePending_cases <;> simp [h]
@[simp] theorem State.divAcc_servicePending : (s.servicePending).divAcc = s.divAcc := by obtain ⟨t, rfl | rfl, h | ⟨src, h⟩⟩ := s.servicePending_cases <;> simp [h]
@[simp] theorem State.countdown_servicePending : (s.servicePending).countdown = s.countdown := by obtain ⟨t, rfl | rfl, h | ⟨src, h⟩⟩ := s.servicePending_cases <;> simp [h]
@[simp] theorem State.lineCounter_servicePending : (s.servicePending).lineCounter = s.lineCounter := by obtain ⟨t, rfl | rfl, h | ⟨src, h⟩⟩ := s.servicePending_cases <;> simp [h]
@[simp] theorem State.mode_servicePending : (s.servicePending).mode = s.mode := by obtain ⟨t, rfl | rfl, h | ⟨src, h⟩⟩ := s.servicePending_cases <;> simp [h]
@[simp] theorem State.linesRendered_servicePending : (s.servicePending).linesRendered = s.linesRendered := by obtain ⟨t, rfl | rfl, h | ⟨src, h⟩⟩ := s.servicePending_cases <;> simp [h]
@[simp] theorem State.bgSurface_servicePending : (s.servicePending).bgSurface = s.bgSurface := by obtain ⟨t, rfl | rfl, h | ⟨src, h⟩⟩ := s.servicePending_cases <;> simp [h]
@[simp] theorem State.winSurface_servicePending : (s.servicePending).winSurface = s.winSurface := by obtain ⟨t, rfl | rfl, h | ⟨src, h⟩⟩ := s.servicePending_cases <;> simp [h]
@[simp] theorem State.sprSurface_servicePending : (s.servicePending).sprSurface = s.sprSurface := by obtain ⟨t, rfl | rfl, h | ⟨src, h⟩⟩ := s.servicePending_cases <;> simp [h]
@[simp] theorem State.frameBuffer_servicePending : (s.servicePending).frameBuffer = s.frameBuffer := by obtain ⟨t, rfl | rfl, h | ⟨src, h⟩⟩ := s.servicePending_cases <;> simp [h]
@[simp] theorem State.frames_servicePending : (s.servicePending).frames = s.frames := by obtain ⟨t, rfl | rfl, h | ⟨src, h⟩⟩ := s.servicePending_cases <;> simp [h]

theorem State.servicePending_wf {s : State} (h : s.mem.wf = true) : (s.servicePending).mem.wf = true := by
  obtain ⟨t, ht, e | ⟨src, e⟩⟩ := s.servicePending_cases
  all_goals
    have hw : t.mem.wf = true := by obtain rfl | rfl := ht <;> exact h
    rw [e]
  · exact hw
  · exact State.takeInterrupt_wf src hw

/-! ### The bytes TIMER and PPU may write -/

@[simp] theorem State.memRead_renderLine (ly : Nat) (k : Word) : (s.renderLine ly).memRead k = s.memRead k := rfl
@[simp] theorem State.memRead_renderFrame (k : Word) : (s.renderFrame).memRead k = s.memRead k := rfl

theorem State.memRead_request_other (src : IntSource) {k : Word} (hint : k ≠ Params.intFlag) :
    (s.request src).memRead k = s.memRead k := by
  rw [State.memRead_request, if_neg hint]

theorem State.memRead_dividerAdvance_other (c : Nat) {k : Word} (hdiv : k ≠ Params.div) :
    (s.dividerAdvance c).memRead k = s.memRead k := by
  unfold State.dividerAdvance; split <;> simp [State.memRead_memWrite_other, hdiv]

theorem State.memRead_timaStep_other {k : Word} (htima : k ≠ Params.tima) (hint : k ≠ Params.intFlag) :
    (s.timaStep).memRead k = s.memRead k := by
  unfold State.timaStep; split <;> simp [State.memRead_memWrite_other, State.memRead_request_other, htima, hint]

theorem State.memRead_countdownAdvance_other (c : Nat) {k : Word} (htima : k ≠ Params.tima) (hint : k ≠ Params.intFlag) :
    (s.countdownAdvance c).memRead k = s.memRead k := by
  unfold State.countdownAdvance; dsimp only; (repeat' split) <;> simp [State.memRead_timaStep_other, htima, hint]

theorem State.memRead_timerAdvance_other (c : Nat) {k : Word} (hdiv : k ≠ Params.div) (htima : k ≠ Params.tima) (hint : k ≠ Params.intFlag) :
    (s.timerAdvance c).memRead k = s.memRead k := by
  unfold State.timerAdvance
  rw [State.memRead_countdownAdvance_other _ _ htima hint, State.memRead_dividerAdvance_other _ _ hdiv]

theorem State.memRead_vblankEntry_other {k : Word} (hint : k ≠ Params.intFlag) :
    (s.vblankEntry).memRead k = s.memRead k := by
  unfold State.vblankEntry; dsimp only; split <;> simp [State.memRead_request_other, hint]

theorem State.memRead_lineChange_other {k : Word} (hly : k ≠ Params.ly) (hint : k ≠ Params.intFlag) :
    (s.lineChange).memRead k = s.memRead k := by
  unfold State.lineChange; dsimp only; (repeat' split) <;> simp [State.memRead_memWrite_other, State.memRead_vblankEntry_other, hly, hint]

theorem State.memRead_lineAdvance_other (c : Nat) {k : Word} (hly : k ≠ Params.ly) (hint : k ≠ Params.intFlag) :
    (s.lineAdvance c).memRead k = s.memRead k := by
  unfold State.lineAdvance; dsimp only; split <;> simp [State.memRead_lineChange_other, hly, hint]

theorem State.memRead_modeChange_other (m : LcdMode) {k : Word} (hint : k ≠ Params.intFlag) :
    (s.modeChange m).memRead k = s.memRead k := by
  unfold State.modeChange; dsimp only; (repeat' split) <;> simp [State.memRead_request_other, hint]

theorem State.memRead_modeAdvance_other {k : Word} (hstat : k ≠ Params.stat) (hint : k ≠ Params.intFlag) :
    (s.modeAdvance).memRead k = s.memRead k := by
  unfold State.modeAdvance; dsimp only; split <;> simp [State.memRead_memWrite_other, State.memRead_modeChange_other, hstat, hint]

theorem State.memRead_lineCompare_other {k : Word} (hstat : k ≠ Params.stat) (hint : k ≠ Params.intFlag) :
    (s.lineCompare).memRead k = s.memRead k := by
  unfold State.lineCompare; dsimp only; (repeat' split) <;> simp [State.memRead_memWrite_other, State.memRead_request_other, hstat, hint]

theorem State.memRead_ppuAdvance_other (c : Nat) {k : Word} (hstat : k ≠ Params.stat) (hly : k ≠ Params.ly) (hint : k ≠ Params.intFlag) :
    (s.ppuAdvance c).memRead k = s.memRead k := by
  rw [State.ppuAdvance_eq, State.memRead_lineCompare_other _ hstat hint, State.memRead_modeAdvance_other _ hstat hint,
    State.memRead_lineAdvance_other _ _ hly hint]


end Sys2Proof.Machine
end

