-- ==== Sys2Proof/Laws/Flags.lean ====
section
/-! SUPPORT. The flag computations in plain arithmetic, and the one lemma by which a written flag byte has its four flags. -/

namespace Sys2Proof.Machine

/-- The flags that `setFlags` wrote are those of the finished instruction. -/
theorem flagsAre_done (s : State) {z n h c z' n' h' c' : Bool} (k : Nat) (hz : z = z') (hn : n = n') (hh : h = h')
    (hc : c = c') : FlagsAre ((s.setFlags z n h c).setNumCycles k) z' n' h' c' := by
  subst hz hn hh hc
  have b := packFlags_bits z n h c
  exact ⟨b.1, b.2.1, b.2.2.1, b.2.2.2.1, b.2.2.2.2⟩

theorem add8_res (a x : Byte) (cin : Bool) : (add8 a x cin).res.toNat = (a.toNat + x.toNat + cin.toNat) % 256 := by
  simp [add8]

theorem sub8_res (a x : Byte) (cin : Bool) :
    (sub8 a x cin).res.toNat = (a.toNat + 512 - x.toNat - cin.toNat) % 256 := by
  have := a.isLt; have := x.isLt
  cases cin <;> (simp [sub8, BitVec.toNat_ofInt]; omega)

theorem sub8_h (a x : Byte) (cin : Bool) : (sub8 a x cin).h = decide (a.toNat % 16 < x.toNat % 16 + cin.toNat) := by
  cases cin <;> simp [sub8] <;> omega

theorem sub8_c (a x : Byte) (cin : Bool) : (sub8 a x cin).c = decide (a.toNat < x.toNat + cin.toNat) := by
  cases cin
  · simp [sub8]
  · simp [sub8]; omega

/-- With no borrow in, the result is the difference of the bytes. -/
theorem sub8_res_sub (a x : Byte) : (sub8 a x false).res = a - x := by
  apply BitVec.eq_of_toNat_eq
  have := a.isLt; have := x.isLt
  rw [sub8_res, BitVec.toNat_sub]
  simp; omega

/-- The offset addition in integers (43_alu16.md R194). -/
theorem addSpE_res (sp : Word) (e : Byte) :
    ((addSpE sp e).res.toNat : Int) = ((sp.toNat : Int) + e.toInt) % 65536 := by
  have h1 : ∀ e : Byte, ((e.signExtend 16).toNat : Int) = e.toInt % 65536 := by decide
  have h2 := h1 e
  have h3 : (addSpE sp e).res.toNat = (sp.toNat + (e.signExtend 16).toNat) % 65536 := by
    simp [addSpE, BitVec.toNat_add]
  omega

/-- A relative target in integers (45_control.md R243). -/
theorem relative_eq (pc : Word) (e : Byte) : relative (pc + 2) e = BitVec.ofInt 16 (pc.toNat + 2 + e.toInt) := by
  have h1 : ∀ e : Byte, ((e.signExtend 16).toNat : Int) = e.toInt % 65536 := by decide
  have h2 := h1 e
  apply BitVec.eq_of_toNat_eq
  simp only [relative, BitVec.toNat_add, BitVec.toNat_ofInt]
  simp
  omega

/-- A condition, read from the flag byte (45_control.md R245). -/
theorem holds_iff (s : State) (cc : Cond) : s.holds cc = true ↔ condition s cc := by
  cases cc <;> simp [State.holds, condition, State.flagZ, State.flagC]

/-- The rotates in plain arithmetic (44_rotate_shift_bit.md R226). -/
theorem rotResult_eq (k : RotOp) (v : Byte) (cin : Bool) : (rotResult k v cin).toNat = rotValue k v.toNat cin.toNat := by
  revert v
  cases k <;> cases cin <;> decide

theorem rotCarry_eq (k : RotOp) (v : Byte) : rotCarry k v = decide (rotOut k v.toNat = 1) := by
  revert v
  cases k <;> decide

end Sys2Proof.Machine
end

