-- ==== Sys2Proof/Laws/PerInstr.lean ====
section
/-! SUPPORT. One lemma per instruction, on the instruction as syntax: its encoding is as long as its first byte says
(30_encoding.md R105). -/

namespace Sys2Proof.Laws

/-- The encoding has the length that its byte 0 decides. -/
def Encoding.Statement (i : Instr) : Prop := (encode i).length = lengthOfOpcode ((encode i).headD 0)

theorem Encoding.nop : Encoding.Statement .nop := rfl
theorem Encoding.ldBcWord (nn : Word) : Encoding.Statement (.ldBcWord nn) := rfl
theorem Encoding.ldAtBcA : Encoding.Statement .ldAtBcA := rfl
theorem Encoding.incBc : Encoding.Statement .incBc := rfl
theorem Encoding.incB : Encoding.Statement .incB := rfl
theorem Encoding.decB : Encoding.Statement .decB := rfl
theorem Encoding.ldBImm (n : Byte) : Encoding.Statement (.ldBImm n) := rfl
theorem Encoding.rlca : Encoding.Statement .rlca := rfl
theorem Encoding.ldAtWordSp (nn : Word) : Encoding.Statement (.ldAtWordSp nn) := rfl
theorem Encoding.addHlBc : Encoding.Statement .addHlBc := rfl
theorem Encoding.ldAAtBc : Encoding.Statement .ldAAtBc := rfl
theorem Encoding.decBc : Encoding.Statement .decBc := rfl
theorem Encoding.incC : Encoding.Statement .incC := rfl
theorem Encoding.decC : Encoding.Statement .decC := rfl
theorem Encoding.ldCImm (n : Byte) : Encoding.Statement (.ldCImm n) := rfl
theorem Encoding.rrca : Encoding.Statement .rrca := rfl
theorem Encoding.stop : Encoding.Statement .stop := rfl
theorem Encoding.ldDeWord (nn : Word) : Encoding.Statement (.ldDeWord nn) := rfl
theorem Encoding.ldAtDeA : Encoding.Statement .ldAtDeA := rfl
theorem Encoding.incDe : Encoding.Statement .incDe := rfl
theorem Encoding.incD : Encoding.Statement .incD := rfl
theorem Encoding.decD : Encoding.Statement .decD := rfl
theorem Encoding.ldDImm (n : Byte) : Encoding.Statement (.ldDImm n) := rfl
theorem Encoding.rla : Encoding.Statement .rla := rfl
theorem Encoding.jrOff (e : Byte) : Encoding.Statement (.jrOff e) := rfl
theorem Encoding.addHlDe : Encoding.Statement .addHlDe := rfl
theorem Encoding.ldAAtDe : Encoding.Statement .ldAAtDe := rfl
theorem Encoding.decDe : Encoding.Statement .decDe := rfl
theorem Encoding.incE : Encoding.Statement .incE := rfl
theorem Encoding.decE : Encoding.Statement .decE := rfl
theorem Encoding.ldEImm (n : Byte) : Encoding.Statement (.ldEImm n) := rfl
theorem Encoding.rra : Encoding.Statement .rra := rfl
theorem Encoding.jrNzOff (e : Byte) : Encoding.Statement (.jrNzOff e) := rfl
theorem Encoding.ldHlWord (nn : Word) : Encoding.Statement (.ldHlWord nn) := rfl
theorem Encoding.ldAtHlIncA : Encoding.Statement .ldAtHlIncA := rfl
theorem Encoding.incHl : Encoding.Statement .incHl := rfl
theorem Encoding.incH : Encoding.Statement .incH := rfl
theorem Encoding.decH : Encoding.Statement .decH := rfl
theorem Encoding.ldHImm (n : Byte) : Encoding.Statement (.ldHImm n) := rfl
theorem Encoding.daa : Encoding.Statement .daa := rfl
theorem Encoding.jrZOff (e : Byte) : Encoding.Statement (.jrZOff e) := rfl
theorem Encoding.addHlHl : Encoding.Statement .addHlHl := rfl
theorem Encoding.ldAAtHlInc : Encoding.Statement .ldAAtHlInc := rfl
theorem Encoding.decHl : Encoding.Statement .decHl := rfl
theorem Encoding.incL : Encoding.Statement .incL := rfl
theorem Encoding.decL : Encoding.Statement .decL := rfl
theorem Encoding.ldLImm (n : Byte) : Encoding.Statement (.ldLImm n) := rfl
theorem Encoding.cpl : Encoding.Statement .cpl := rfl
theorem Encoding.jrNcOff (e : Byte) : Encoding.Statement (.jrNcOff e) := rfl
theorem Encoding.ldSpWord (nn : Word) : Encoding.Statement (.ldSpWord nn) := rfl
theorem Encoding.ldAtHlDecA : Encoding.Statement .ldAtHlDecA := rfl
theorem Encoding.incSp : Encoding.Statement .incSp := rfl
theorem Encoding.incAtHl : Encoding.Statement .incAtHl := rfl
theorem Encoding.decAtHl : Encoding.Statement .decAtHl := rfl
theorem Encoding.ldAtHlImm (n : Byte) : Encoding.Statement (.ldAtHlImm n) := rfl
theorem Encoding.scf : Encoding.Statement .scf := rfl
theorem Encoding.jrCOff (e : Byte) : Encoding.Statement (.jrCOff e) := rfl
theorem Encoding.addHlSp : Encoding.Statement .addHlSp := rfl
theorem Encoding.ldAAtHlDec : Encoding.Statement .ldAAtHlDec := rfl
theorem Encoding.decSp : Encoding.Statement .decSp := rfl
theorem Encoding.incA : Encoding.Statement .incA := rfl
theorem Encoding.decA : Encoding.Statement .decA := rfl
theorem Encoding.ldAImm (n : Byte) : Encoding.Statement (.ldAImm n) := rfl
theorem Encoding.ccf : Encoding.Statement .ccf := rfl
theorem Encoding.ldBB : Encoding.Statement .ldBB := rfl
theorem Encoding.ldBC : Encoding.Statement .ldBC := rfl
theorem Encoding.ldBD : Encoding.Statement .ldBD := rfl
theorem Encoding.ldBE : Encoding.Statement .ldBE := rfl
theorem Encoding.ldBH : Encoding.Statement .ldBH := rfl
theorem Encoding.ldBL : Encoding.Statement .ldBL := rfl
theorem Encoding.ldBAtHl : Encoding.Statement .ldBAtHl := rfl
theorem Encoding.ldBA : Encoding.Statement .ldBA := rfl
theorem Encoding.ldCB : Encoding.Statement .ldCB := rfl
theorem Encoding.ldCC : Encoding.Statement .ldCC := rfl
theorem Encoding.ldCD : Encoding.Statement .ldCD := rfl
theorem Encoding.ldCE : Encoding.Statement .ldCE := rfl
theorem Encoding.ldCH : Encoding.Statement .ldCH := rfl
theorem Encoding.ldCL : Encoding.Statement .ldCL := rfl
theorem Encoding.ldCAtHl : Encoding.Statement .ldCAtHl := rfl
theorem Encoding.ldCA : Encoding.Statement .ldCA := rfl
theorem Encoding.ldDB : Encoding.Statement .ldDB := rfl
theorem Encoding.ldDC : Encoding.Statement .ldDC := rfl
theorem Encoding.ldDD : Encoding.Statement .ldDD := rfl
theorem Encoding.ldDE : Encoding.Statement .ldDE := rfl
theorem Encoding.ldDH : Encoding.Statement .ldDH := rfl
theorem Encoding.ldDL : Encoding.Statement .ldDL := rfl
theorem Encoding.ldDAtHl : Encoding.Statement .ldDAtHl := rfl
theorem Encoding.ldDA : Encoding.Statement .ldDA := rfl
theorem Encoding.ldEB : Encoding.Statement .ldEB := rfl
theorem Encoding.ldEC : Encoding.Statement .ldEC := rfl
theorem Encoding.ldED : Encoding.Statement .ldED := rfl
theorem Encoding.ldEE : Encoding.Statement .ldEE := rfl
theorem Encoding.ldEH : Encoding.Statement .ldEH := rfl
theorem Encoding.ldEL : Encoding.Statement .ldEL := rfl
theorem Encoding.ldEAtHl : Encoding.Statement .ldEAtHl := rfl
theorem Encoding.ldEA : Encoding.Statement .ldEA := rfl
theorem Encoding.ldHB : Encoding.Statement .ldHB := rfl
theorem Encoding.ldHC : Encoding.Statement .ldHC := rfl
theorem Encoding.ldHD : Encoding.Statement .ldHD := rfl
theorem Encoding.ldHE : Encoding.Statement .ldHE := rfl
theorem Encoding.ldHH : Encoding.Statement .ldHH := rfl
theorem Encoding.ldHL : Encoding.Statement .ldHL := rfl
theorem Encoding.ldHAtHl : Encoding.Statement .ldHAtHl := rfl
theorem Encoding.ldHA : Encoding.Statement .ldHA := rfl
theorem Encoding.ldLB : Encoding.Statement .ldLB := rfl
theorem Encoding.ldLC : Encoding.Statement .ldLC := rfl
theorem Encoding.ldLD : Encoding.Statement .ldLD := rfl
theorem Encoding.ldLE : Encoding.Statement .ldLE := rfl
theorem Encoding.ldLH : Encoding.Statement .ldLH := rfl
theorem Encoding.ldLL : Encoding.Statement .ldLL := rfl
theorem Encoding.ldLAtHl : Encoding.Statement .ldLAtHl := rfl
theorem Encoding.ldLA : Encoding.Statement .ldLA := rfl
theorem Encoding.ldAtHlB : Encoding.Statement .ldAtHlB := rfl
theorem Encoding.ldAtHlC : Encoding.Statement .ldAtHlC := rfl
theorem Encoding.ldAtHlD : Encoding.Statement .ldAtHlD := rfl
theorem Encoding.ldAtHlE : Encoding.Statement .ldAtHlE := rfl
theorem Encoding.ldAtHlH : Encoding.Statement .ldAtHlH := rfl
theorem Encoding.ldAtHlL : Encoding.Statement .ldAtHlL := rfl
theorem Encoding.halt : Encoding.Statement .halt := rfl
theorem Encoding.ldAtHlA : Encoding.Statement .ldAtHlA := rfl
theorem Encoding.ldAB : Encoding.Statement .ldAB := rfl
theorem Encoding.ldAC : Encoding.Statement .ldAC := rfl
theorem Encoding.ldAD : Encoding.Statement .ldAD := rfl
theorem Encoding.ldAE : Encoding.Statement .ldAE := rfl
theorem Encoding.ldAH : Encoding.Statement .ldAH := rfl
theorem Encoding.ldAL : Encoding.Statement .ldAL := rfl
theorem Encoding.ldAAtHl : Encoding.Statement .ldAAtHl := rfl
theorem Encoding.ldAA : Encoding.Statement .ldAA := rfl
theorem Encoding.addAB : Encoding.Statement .addAB := rfl
theorem Encoding.addAC : Encoding.Statement .addAC := rfl
theorem Encoding.addAD : Encoding.Statement .addAD := rfl
theorem Encoding.addAE : Encoding.Statement .addAE := rfl
theorem Encoding.addAH : Encoding.Statement .addAH := rfl
theorem Encoding.addAL : Encoding.Statement .addAL := rfl
theorem Encoding.addAAtHl : Encoding.Statement .addAAtHl := rfl
theorem Encoding.addAA : Encoding.Statement .addAA := rfl
theorem Encoding.adcAB : Encoding.Statement .adcAB := rfl
theorem Encoding.adcAC : Encoding.Statement .adcAC := rfl
theorem Encoding.adcAD : Encoding.Statement .adcAD := rfl
theorem Encoding.adcAE : Encoding.Statement .adcAE := rfl
theorem Encoding.adcAH : Encoding.Statement .adcAH := rfl
theorem Encoding.adcAL : Encoding.Statement .adcAL := rfl
theorem Encoding.adcAAtHl : Encoding.Statement .adcAAtHl := rfl
theorem Encoding.adcAA : Encoding.Statement .adcAA := rfl
theorem Encoding.subAB : Encoding.Statement .subAB := rfl
theorem Encoding.subAC : Encoding.Statement .subAC := rfl
theorem Encoding.subAD : Encoding.Statement .subAD := rfl
theorem Encoding.subAE : Encoding.Statement .subAE := rfl
theorem Encoding.subAH : Encoding.Statement .subAH := rfl
theorem Encoding.subAL : Encoding.Statement .subAL := rfl
theorem Encoding.subAAtHl : Encoding.Statement .subAAtHl := rfl
theorem Encoding.subAA : Encoding.Statement .subAA := rfl
theorem Encoding.sbcAB : Encoding.Statement .sbcAB := rfl
theorem Encoding.sbcAC : Encoding.Statement .sbcAC := rfl
theorem Encoding.sbcAD : Encoding.Statement .sbcAD := rfl
theorem Encoding.sbcAE : Encoding.Statement .sbcAE := rfl
theorem Encoding.sbcAH : Encoding.Statement .sbcAH := rfl
theorem Encoding.sbcAL : Encoding.Statement .sbcAL := rfl
theorem Encoding.sbcAAtHl : Encoding.Statement .sbcAAtHl := rfl
theorem Encoding.sbcAA : Encoding.Statement .sbcAA := rfl
theorem Encoding.andAB : Encoding.Statement .andAB := rfl
theorem Encoding.andAC : Encoding.Statement .andAC := rfl
theorem Encoding.andAD : Encoding.Statement .andAD := rfl
theorem Encoding.andAE : Encoding.Statement .andAE := rfl
theorem Encoding.andAH : Encoding.Statement .andAH := rfl
theorem Encoding.andAL : Encoding.Statement .andAL := rfl
theorem Encoding.andAAtHl : Encoding.Statement .andAAtHl := rfl
theorem Encoding.andAA : Encoding.Statement .andAA := rfl
theorem Encoding.xorAB : Encoding.Statement .xorAB := rfl
theorem Encoding.xorAC : Encoding.Statement .xorAC := rfl
theorem Encoding.xorAD : Encoding.Statement .xorAD := rfl
theorem Encoding.xorAE : Encoding.Statement .xorAE := rfl
theorem Encoding.xorAH : Encoding.Statement .xorAH := rfl
theorem Encoding.xorAL : Encoding.Statement .xorAL := rfl
theorem Encoding.xorAAtHl : Encoding.Statement .xorAAtHl := rfl
theorem Encoding.xorAA : Encoding.Statement .xorAA := rfl
theorem Encoding.orAB : Encoding.Statement .orAB := rfl
theorem Encoding.orAC : Encoding.Statement .orAC := rfl
theorem Encoding.orAD : Encoding.Statement .orAD := rfl
theorem Encoding.orAE : Encoding.Statement .orAE := rfl
theorem Encoding.orAH : Encoding.Statement .orAH := rfl
theorem Encoding.orAL : Encoding.Statement .orAL := rfl
theorem Encoding.orAAtHl : Encoding.Statement .orAAtHl := rfl
theorem Encoding.orAA : Encoding.Statement .orAA := rfl
theorem Encoding.cpAB : Encoding.Statement .cpAB := rfl
theorem Encoding.cpAC : Encoding.Statement .cpAC := rfl
theorem Encoding.cpAD : Encoding.Statement .cpAD := rfl
theorem Encoding.cpAE : Encoding.Statement .cpAE := rfl
theorem Encoding.cpAH : Encoding.Statement .cpAH := rfl
theorem Encoding.cpAL : Encoding.Statement .cpAL := rfl
theorem Encoding.cpAAtHl : Encoding.Statement .cpAAtHl := rfl
theorem Encoding.cpAA : Encoding.Statement .cpAA := rfl
theorem Encoding.retNz : Encoding.Statement .retNz := rfl
theorem Encoding.popBc : Encoding.Statement .popBc := rfl
theorem Encoding.jpNzWord (nn : Word) : Encoding.Statement (.jpNzWord nn) := rfl
theorem Encoding.jpWord (nn : Word) : Encoding.Statement (.jpWord nn) := rfl
theorem Encoding.callNzWord (nn : Word) : Encoding.Statement (.callNzWord nn) := rfl
theorem Encoding.pushBc : Encoding.Statement .pushBc := rfl
theorem Encoding.addAImm (n : Byte) : Encoding.Statement (.addAImm n) := rfl
theorem Encoding.rst00 : Encoding.Statement .rst00 := rfl
theorem Encoding.retZ : Encoding.Statement .retZ := rfl
theorem Encoding.ret : Encoding.Statement .ret := rfl
theorem Encoding.jpZWord (nn : Word) : Encoding.Statement (.jpZWord nn) := rfl
theorem Encoding.callZWord (nn : Word) : Encoding.Statement (.callZWord nn) := rfl
theorem Encoding.callWord (nn : Word) : Encoding.Statement (.callWord nn) := rfl
theorem Encoding.adcAImm (n : Byte) : Encoding.Statement (.adcAImm n) := rfl
theorem Encoding.rst08 : Encoding.Statement .rst08 := rfl
theorem Encoding.retNc : Encoding.Statement .retNc := rfl
theorem Encoding.popDe : Encoding.Statement .popDe := rfl
theorem Encoding.jpNcWord (nn : Word) : Encoding.Statement (.jpNcWord nn) := rfl
theorem Encoding.illegalD3 : Encoding.Statement .illegalD3 := rfl
theorem Encoding.callNcWord (nn : Word) : Encoding.Statement (.callNcWord nn) := rfl
theorem Encoding.pushDe : Encoding.Statement .pushDe := rfl
theorem Encoding.subAImm (n : Byte) : Encoding.Statement (.subAImm n) := rfl
theorem Encoding.rst10 : Encoding.Statement .rst10 := rfl
theorem Encoding.retC : Encoding.Statement .retC := rfl
theorem Encoding.reti : Encoding.Statement .reti := rfl
theorem Encoding.jpCWord (nn : Word) : Encoding.Statement (.jpCWord nn) := rfl
theorem Encoding.illegalDB : Encoding.Statement .illegalDB := rfl
theorem Encoding.callCWord (nn : Word) : Encoding.Statement (.callCWord nn) := rfl
theorem Encoding.illegalDD : Encoding.Statement .illegalDD := rfl
theorem Encoding.sbcAImm (n : Byte) : Encoding.Statement (.sbcAImm n) := rfl
theorem Encoding.rst18 : Encoding.Statement .rst18 := rfl
theorem Encoding.ldhAtImmA (n : Byte) : Encoding.Statement (.ldhAtImmA n) := rfl
theorem Encoding.popHl : Encoding.Statement .popHl := rfl
theorem Encoding.ldhAtCA : Encoding.Statement .ldhAtCA := rfl
theorem Encoding.illegalE3 : Encoding.Statement .illegalE3 := rfl
theorem Encoding.illegalE4 : Encoding.Statement .illegalE4 := rfl
theorem Encoding.pushHl : Encoding.Statement .pushHl := rfl
theorem Encoding.andAImm (n : Byte) : Encoding.Statement (.andAImm n) := rfl
theorem Encoding.rst20 : Encoding.Statement .rst20 := rfl
theorem Encoding.addSpOff (e : Byte) : Encoding.Statement (.addSpOff e) := rfl
theorem Encoding.jpHl : Encoding.Statement .jpHl := rfl
theorem Encoding.ldAtWordA (nn : Word) : Encoding.Statement (.ldAtWordA nn) := rfl
theorem Encoding.illegalEB : Encoding.Statement .illegalEB := rfl
theorem Encoding.illegalEC : Encoding.Statement .illegalEC := rfl
theorem Encoding.illegalED : Encoding.Statement .illegalED := rfl
theorem Encoding.xorAImm (n : Byte) : Encoding.Statement (.xorAImm n) := rfl
theorem Encoding.rst28 : Encoding.Statement .rst28 := rfl
theorem Encoding.ldhAAtImm (n : Byte) : Encoding.Statement (.ldhAAtImm n) := rfl
theorem Encoding.popAf : Encoding.Statement .popAf := rfl
theorem Encoding.ldhAAtC : Encoding.Statement .ldhAAtC := rfl
theorem Encoding.di : Encoding.Statement .di := rfl
theorem Encoding.illegalF4 : Encoding.Statement .illegalF4 := rfl
theorem Encoding.pushAf : Encoding.Statement .pushAf := rfl
theorem Encoding.orAImm (n : Byte) : Encoding.Statement (.orAImm n) := rfl
theorem Encoding.rst30 : Encoding.Statement .rst30 := rfl
theorem Encoding.ldHlSpOff (e : Byte) : Encoding.Statement (.ldHlSpOff e) := rfl
theorem Encoding.ldSpHl : Encoding.Statement .ldSpHl := rfl
theorem Encoding.ldAAtWord (nn : Word) : Encoding.Statement (.ldAAtWord nn) := rfl
theorem Encoding.ei : Encoding.Statement .ei := rfl
theorem Encoding.illegalFC : Encoding.Statement .illegalFC := rfl
theorem Encoding.illegalFD : Encoding.Statement .illegalFD := rfl
theorem Encoding.cpAImm (n : Byte) : Encoding.Statement (.cpAImm n) := rfl
theorem Encoding.rst38 : Encoding.Statement .rst38 := rfl
theorem Encoding.rlcB : Encoding.Statement .rlcB := rfl
theorem Encoding.rlcC : Encoding.Statement .rlcC := rfl
theorem Encoding.rlcD : Encoding.Statement .rlcD := rfl
theorem Encoding.rlcE : Encoding.Statement .rlcE := rfl
theorem Encoding.rlcH : Encoding.Statement .rlcH := rfl
theorem Encoding.rlcL : Encoding.Statement .rlcL := rfl
theorem Encoding.rlcAtHl : Encoding.Statement .rlcAtHl := rfl
theorem Encoding.rlcA : Encoding.Statement .rlcA := rfl
theorem Encoding.rrcB : Encoding.Statement .rrcB := rfl
theorem Encoding.rrcC : Encoding.Statement .rrcC := rfl
theorem Encoding.rrcD : Encoding.Statement .rrcD := rfl
theorem Encoding.rrcE : Encoding.Statement .rrcE := rfl
theorem Encoding.rrcH : Encoding.Statement .rrcH := rfl
theorem Encoding.rrcL : Encoding.Statement .rrcL := rfl
theorem Encoding.rrcAtHl : Encoding.Statement .rrcAtHl := rfl
theorem Encoding.rrcA : Encoding.Statement .rrcA := rfl
theorem Encoding.rlB : Encoding.Statement .rlB := rfl
theorem Encoding.rlC : Encoding.Statement .rlC := rfl
theorem Encoding.rlD : Encoding.Statement .rlD := rfl
theorem Encoding.rlE : Encoding.Statement .rlE := rfl
theorem Encoding.rlH : Encoding.Statement .rlH := rfl
theorem Encoding.rlL : Encoding.Statement .rlL := rfl
theorem Encoding.rlAtHl : Encoding.Statement .rlAtHl := rfl
theorem Encoding.rlA : Encoding.Statement .rlA := rfl
theorem Encoding.rrB : Encoding.Statement .rrB := rfl
theorem Encoding.rrC : Encoding.Statement .rrC := rfl
theorem Encoding.rrD : Encoding.Statement .rrD := rfl
theorem Encoding.rrE : Encoding.Statement .rrE := rfl
theorem Encoding.rrH : Encoding.Statement .rrH := rfl
theorem Encoding.rrL : Encoding.Statement .rrL := rfl
theorem Encoding.rrAtHl : Encoding.Statement .rrAtHl := rfl
theorem Encoding.rrA : Encoding.Statement .rrA := rfl
theorem Encoding.slaB : Encoding.Statement .slaB := rfl
theorem Encoding.slaC : Encoding.Statement .slaC := rfl
theorem Encoding.slaD : Encoding.Statement .slaD := rfl
theorem Encoding.slaE : Encoding.Statement .slaE := rfl
theorem Encoding.slaH : Encoding.Statement .slaH := rfl
theorem Encoding.slaL : Encoding.Statement .slaL := rfl
theorem Encoding.slaAtHl : Encoding.Statement .slaAtHl := rfl
theorem Encoding.slaA : Encoding.Statement .slaA := rfl
theorem Encoding.sraB : Encoding.Statement .sraB := rfl
theorem Encoding.sraC : Encoding.Statement .sraC := rfl
theorem Encoding.sraD : Encoding.Statement .sraD := rfl
theorem Encoding.sraE : Encoding.Statement .sraE := rfl
theorem Encoding.sraH : Encoding.Statement .sraH := rfl
theorem Encoding.sraL : Encoding.Statement .sraL := rfl
theorem Encoding.sraAtHl : Encoding.Statement .sraAtHl := rfl
theorem Encoding.sraA : Encoding.Statement .sraA := rfl
theorem Encoding.swapB : Encoding.Statement .swapB := rfl
theorem Encoding.swapC : Encoding.Statement .swapC := rfl
theorem Encoding.swapD : Encoding.Statement .swapD := rfl
theorem Encoding.swapE : Encoding.Statement .swapE := rfl
theorem Encoding.swapH : Encoding.Statement .swapH := rfl
theorem Encoding.swapL : Encoding.Statement .swapL := rfl
theorem Encoding.swapAtHl : Encoding.Statement .swapAtHl := rfl
theorem Encoding.swapA : Encoding.Statement .swapA := rfl
theorem Encoding.srlB : Encoding.Statement .srlB := rfl
theorem Encoding.srlC : Encoding.Statement .srlC := rfl
theorem Encoding.srlD : Encoding.Statement .srlD := rfl
theorem Encoding.srlE : Encoding.Statement .srlE := rfl
theorem Encoding.srlH : Encoding.Statement .srlH := rfl
theorem Encoding.srlL : Encoding.Statement .srlL := rfl
theorem Encoding.srlAtHl : Encoding.Statement .srlAtHl := rfl
theorem Encoding.srlA : Encoding.Statement .srlA := rfl
theorem Encoding.bit0B : Encoding.Statement .bit0B := rfl
theorem Encoding.bit0C : Encoding.Statement .bit0C := rfl
theorem Encoding.bit0D : Encoding.Statement .bit0D := rfl
theorem Encoding.bit0E : Encoding.Statement .bit0E := rfl
theorem Encoding.bit0H : Encoding.Statement .bit0H := rfl
theorem Encoding.bit0L : Encoding.Statement .bit0L := rfl
theorem Encoding.bit0AtHl : Encoding.Statement .bit0AtHl := rfl
theorem Encoding.bit0A : Encoding.Statement .bit0A := rfl
theorem Encoding.bit1B : Encoding.Statement .bit1B := rfl
theorem Encoding.bit1C : Encoding.Statement .bit1C := rfl
theorem Encoding.bit1D : Encoding.Statement .bit1D := rfl
theorem Encoding.bit1E : Encoding.Statement .bit1E := rfl
theorem Encoding.bit1H : Encoding.Statement .bit1H := rfl
theorem Encoding.bit1L : Encoding.Statement .bit1L := rfl
theorem Encoding.bit1AtHl : Encoding.Statement .bit1AtHl := rfl
theorem Encoding.bit1A : Encoding.Statement .bit1A := rfl
theorem Encoding.bit2B : Encoding.Statement .bit2B := rfl
theorem Encoding.bit2C : Encoding.Statement .bit2C := rfl
theorem Encoding.bit2D : Encoding.Statement .bit2D := rfl
theorem Encoding.bit2E : Encoding.Statement .bit2E := rfl
theorem Encoding.bit2H : Encoding.Statement .bit2H := rfl
theorem Encoding.bit2L : Encoding.Statement .bit2L := rfl
theorem Encoding.bit2AtHl : Encoding.Statement .bit2AtHl := rfl
theorem Encoding.bit2A : Encoding.Statement .bit2A := rfl
theorem Encoding.bit3B : Encoding.Statement .bit3B := rfl
theorem Encoding.bit3C : Encoding.Statement .bit3C := rfl
theorem Encoding.bit3D : Encoding.Statement .bit3D := rfl
theorem Encoding.bit3E : Encoding.Statement .bit3E := rfl
theorem Encoding.bit3H : Encoding.Statement .bit3H := rfl
theorem Encoding.bit3L : Encoding.Statement .bit3L := rfl
theorem Encoding.bit3AtHl : Encoding.Statement .bit3AtHl := rfl
theorem Encoding.bit3A : Encoding.Statement .bit3A := rfl
theorem Encoding.bit4B : Encoding.Statement .bit4B := rfl
theorem Encoding.bit4C : Encoding.Statement .bit4C := rfl
theorem Encoding.bit4D : Encoding.Statement .bit4D := rfl
theorem Encoding.bit4E : Encoding.Statement .bit4E := rfl
theorem Encoding.bit4H : Encoding.Statement .bit4H := rfl
theorem Encoding.bit4L : Encoding.Statement .bit4L := rfl
theorem Encoding.bit4AtHl : Encoding.Statement .bit4AtHl := rfl
theorem Encoding.bit4A : Encoding.Statement .bit4A := rfl
theorem Encoding.bit5B : Encoding.Statement .bit5B := rfl
theorem Encoding.bit5C : Encoding.Statement .bit5C := rfl
theorem Encoding.bit5D : Encoding.Statement .bit5D := rfl
theorem Encoding.bit5E : Encoding.Statement .bit5E := rfl
theorem Encoding.bit5H : Encoding.Statement .bit5H := rfl
theorem Encoding.bit5L : Encoding.Statement .bit5L := rfl
theorem Encoding.bit5AtHl : Encoding.Statement .bit5AtHl := rfl
theorem Encoding.bit5A : Encoding.Statement .bit5A := rfl
theorem Encoding.bit6B : Encoding.Statement .bit6B := rfl
theorem Encoding.bit6C : Encoding.Statement .bit6C := rfl
theorem Encoding.bit6D : Encoding.Statement .bit6D := rfl
theorem Encoding.bit6E : Encoding.Statement .bit6E := rfl
theorem Encoding.bit6H : Encoding.Statement .bit6H := rfl
theorem Encoding.bit6L : Encoding.Statement .bit6L := rfl
theorem Encoding.bit6AtHl : Encoding.Statement .bit6AtHl := rfl
theorem Encoding.bit6A : Encoding.Statement .bit6A := rfl
theorem Encoding.bit7B : Encoding.Statement .bit7B := rfl
theorem Encoding.bit7C : Encoding.Statement .bit7C := rfl
theorem Encoding.bit7D : Encoding.Statement .bit7D := rfl
theorem Encoding.bit7E : Encoding.Statement .bit7E := rfl
theorem Encoding.bit7H : Encoding.Statement .bit7H := rfl
theorem Encoding.bit7L : Encoding.Statement .bit7L := rfl
theorem Encoding.bit7AtHl : Encoding.Statement .bit7AtHl := rfl
theorem Encoding.bit7A : Encoding.Statement .bit7A := rfl
theorem Encoding.res0B : Encoding.Statement .res0B := rfl
theorem Encoding.res0C : Encoding.Statement .res0C := rfl
theorem Encoding.res0D : Encoding.Statement .res0D := rfl
theorem Encoding.res0E : Encoding.Statement .res0E := rfl
theorem Encoding.res0H : Encoding.Statement .res0H := rfl
theorem Encoding.res0L : Encoding.Statement .res0L := rfl
theorem Encoding.res0AtHl : Encoding.Statement .res0AtHl := rfl
theorem Encoding.res0A : Encoding.Statement .res0A := rfl
theorem Encoding.res1B : Encoding.Statement .res1B := rfl
theorem Encoding.res1C : Encoding.Statement .res1C := rfl
theorem Encoding.res1D : Encoding.Statement .res1D := rfl
theorem Encoding.res1E : Encoding.Statement .res1E := rfl
theorem Encoding.res1H : Encoding.Statement .res1H := rfl
theorem Encoding.res1L : Encoding.Statement .res1L := rfl
theorem Encoding.res1AtHl : Encoding.Statement .res1AtHl := rfl
theorem Encoding.res1A : Encoding.Statement .res1A := rfl
theorem Encoding.res2B : Encoding.Statement .res2B := rfl
theorem Encoding.res2C : Encoding.Statement .res2C := rfl
theorem Encoding.res2D : Encoding.Statement .res2D := rfl
theorem Encoding.res2E : Encoding.Statement .res2E := rfl
theorem Encoding.res2H : Encoding.Statement .res2H := rfl
theorem Encoding.res2L : Encoding.Statement .res2L := rfl
theorem Encoding.res2AtHl : Encoding.Statement .res2AtHl := rfl
theorem Encoding.res2A : Encoding.Statement .res2A := rfl
theorem Encoding.res3B : Encoding.Statement .res3B := rfl
theorem Encoding.res3C : Encoding.Statement .res3C := rfl
theorem Encoding.res3D : Encoding.Statement .res3D := rfl
theorem Encoding.res3E : Encoding.Statement .res3E := rfl
theorem Encoding.res3H : Encoding.Statement .res3H := rfl
theorem Encoding.res3L : Encoding.Statement .res3L := rfl
theorem Encoding.res3AtHl : Encoding.Statement .res3AtHl := rfl
theorem Encoding.res3A : Encoding.Statement .res3A := rfl
theorem Encoding.res4B : Encoding.Statement .res4B := rfl
theorem Encoding.res4C : Encoding.Statement .res4C := rfl
theorem Encoding.res4D : Encoding.Statement .res4D := rfl
theorem Encoding.res4E : Encoding.Statement .res4E := rfl
theorem Encoding.res4H : Encoding.Statement .res4H := rfl
theorem Encoding.res4L : Encoding.Statement .res4L := rfl
theorem Encoding.res4AtHl : Encoding.Statement .res4AtHl := rfl
theorem Encoding.res4A : Encoding.Statement .res4A := rfl
theorem Encoding.res5B : Encoding.Statement .res5B := rfl
theorem Encoding.res5C : Encoding.Statement .res5C := rfl
theorem Encoding.res5D : Encoding.Statement .res5D := rfl
theorem Encoding.res5E : Encoding.Statement .res5E := rfl
theorem Encoding.res5H : Encoding.Statement .res5H := rfl
theorem Encoding.res5L : Encoding.Statement .res5L := rfl
theorem Encoding.res5AtHl : Encoding.Statement .res5AtHl := rfl
theorem Encoding.res5A : Encoding.Statement .res5A := rfl
theorem Encoding.res6B : Encoding.Statement .res6B := rfl
theorem Encoding.res6C : Encoding.Statement .res6C := rfl
theorem Encoding.res6D : Encoding.Statement .res6D := rfl
theorem Encoding.res6E : Encoding.Statement .res6E := rfl
theorem Encoding.res6H : Encoding.Statement .res6H := rfl
theorem Encoding.res6L : Encoding.Statement .res6L := rfl
theorem Encoding.res6AtHl : Encoding.Statement .res6AtHl := rfl
theorem Encoding.res6A : Encoding.Statement .res6A := rfl
theorem Encoding.res7B : Encoding.Statement .res7B := rfl
theorem Encoding.res7C : Encoding.Statement .res7C := rfl
theorem Encoding.res7D : Encoding.Statement .res7D := rfl
theorem Encoding.res7E : Encoding.Statement .res7E := rfl
theorem Encoding.res7H : Encoding.Statement .res7H := rfl
theorem Encoding.res7L : Encoding.Statement .res7L := rfl
theorem Encoding.res7AtHl : Encoding.Statement .res7AtHl := rfl
theorem Encoding.res7A : Encoding.Statement .res7A := rfl
theorem Encoding.set0B : Encoding.Statement .set0B := rfl
theorem Encoding.set0C : Encoding.Statement .set0C := rfl
theorem Encoding.set0D : Encoding.Statement .set0D := rfl
theorem Encoding.set0E : Encoding.Statement .set0E := rfl
theorem Encoding.set0H : Encoding.Statement .set0H := rfl
theorem Encoding.set0L : Encoding.Statement .set0L := rfl
theorem Encoding.set0AtHl : Encoding.Statement .set0AtHl := rfl
theorem Encoding.set0A : Encoding.Statement .set0A := rfl
theorem Encoding.set1B : Encoding.Statement .set1B := rfl
theorem Encoding.set1C : Encoding.Statement .set1C := rfl
theorem Encoding.set1D : Encoding.Statement .set1D := rfl
theorem Encoding.set1E : Encoding.Statement .set1E := rfl
theorem Encoding.set1H : Encoding.Statement .set1H := rfl
theorem Encoding.set1L : Encoding.Statement .set1L := rfl
theorem Encoding.set1AtHl : Encoding.Statement .set1AtHl := rfl
theorem Encoding.set1A : Encoding.Statement .set1A := rfl
theorem Encoding.set2B : Encoding.Statement .set2B := rfl
theorem Encoding.set2C : Encoding.Statement .set2C := rfl
theorem Encoding.set2D : Encoding.Statement .set2D := rfl
theorem Encoding.set2E : Encoding.Statement .set2E := rfl
theorem Encoding.set2H : Encoding.Statement .set2H := rfl
theorem Encoding.set2L : Encoding.Statement .set2L := rfl
theorem Encoding.set2AtHl : Encoding.Statement .set2AtHl := rfl
theorem Encoding.set2A : Encoding.Statement .set2A := rfl
theorem Encoding.set3B : Encoding.Statement .set3B := rfl
theorem Encoding.set3C : Encoding.Statement .set3C := rfl
theorem Encoding.set3D : Encoding.Statement .set3D := rfl
theorem Encoding.set3E : Encoding.Statement .set3E := rfl
theorem Encoding.set3H : Encoding.Statement .set3H := rfl
theorem Encoding.set3L : Encoding.Statement .set3L := rfl
theorem Encoding.set3AtHl : Encoding.Statement .set3AtHl := rfl
theorem Encoding.set3A : Encoding.Statement .set3A := rfl
theorem Encoding.set4B : Encoding.Statement .set4B := rfl
theorem Encoding.set4C : Encoding.Statement .set4C := rfl
theorem Encoding.set4D : Encoding.Statement .set4D := rfl
theorem Encoding.set4E : Encoding.Statement .set4E := rfl
theorem Encoding.set4H : Encoding.Statement .set4H := rfl
theorem Encoding.set4L : Encoding.Statement .set4L := rfl
theorem Encoding.set4AtHl : Encoding.Statement .set4AtHl := rfl
theorem Encoding.set4A : Encoding.Statement .set4A := rfl
theorem Encoding.set5B : Encoding.Statement .set5B := rfl
theorem Encoding.set5C : Encoding.Statement .set5C := rfl
theorem Encoding.set5D : Encoding.Statement .set5D := rfl
theorem Encoding.set5E : Encoding.Statement .set5E := rfl
theorem Encoding.set5H : Encoding.Statement .set5H := rfl
theorem Encoding.set5L : Encoding.Statement .set5L := rfl
theorem Encoding.set5AtHl : Encoding.Statement .set5AtHl := rfl
theorem Encoding.set5A : Encoding.Statement .set5A := rfl
theorem Encoding.set6B : Encoding.Statement .set6B := rfl
theorem Encoding.set6C : Encoding.Statement .set6C := rfl
theorem Encoding.set6D : Encoding.Statement .set6D := rfl
theorem Encoding.set6E : Encoding.Statement .set6E := rfl
theorem Encoding.set6H : Encoding.Statement .set6H := rfl
theorem Encoding.set6L : Encoding.Statement .set6L := rfl
theorem Encoding.set6AtHl : Encoding.Statement .set6AtHl := rfl
theorem Encoding.set6A : Encoding.Statement .set6A := rfl
theorem Encoding.set7B : Encoding.Statement .set7B := rfl
theorem Encoding.set7C : Encoding.Statement .set7C := rfl
theorem Encoding.set7D : Encoding.Statement .set7D := rfl
theorem Encoding.set7E : Encoding.Statement .set7E := rfl
theorem Encoding.set7H : Encoding.Statement .set7H := rfl
theorem Encoding.set7L : Encoding.Statement .set7L := rfl
theorem Encoding.set7AtHl : Encoding.Statement .set7AtHl := rfl
theorem Encoding.set7A : Encoding.Statement .set7A := rfl

end Sys2Proof.Laws
end

