-- ==== Sys2Proof/Laws/Surface.lean ====
section
/-! SUPPORT. Surfaces: what a cell reads as after each way a surface is made, and that every such way has 144 rows of 160
cells. -/

namespace Sys2Proof.Machine

variable {cell : Type}

/-! ### Reading a cell -/

theorem Surface.cell_filled (v dflt : cell) {x y : Nat} (hx : x < Config.screenWidth) (hy : y < Config.screenHeight) :
    (Surface.filled v).cell dflt x y = v := by
  unfold Surface.filled Surface.cell
  rw [List.getD_eq_getElem?_getD, List.getD_eq_getElem?_getD, List.getElem?_replicate, if_pos hy, Option.getD_some,
    List.getElem?_replicate, if_pos hx, Option.getD_some]

theorem surfaceRow_getD (f : Nat → cell) (dflt : cell) {x : Nat} (hx : x < Config.screenWidth) :
    (surfaceRow f).getD x dflt = f x := by
  unfold surfaceRow
  rw [List.getD_eq_getElem?_getD, List.getElem?_map, List.getElem?_range hx]
  rfl

theorem cell_surfaceOf (f : Nat → Nat → cell) (dflt : cell) {x y : Nat} (hx : x < Config.screenWidth)
    (hy : y < Config.screenHeight) : (surfaceOf f).cell dflt x y = f x y := by
  unfold surfaceOf Surface.cell
  rw [List.getD_eq_getElem?_getD (a := ([] : List cell)), List.getElem?_map, List.getElem?_range hy]
  exact surfaceRow_getD _ dflt hx

theorem Surface.cell_set_same {surf : Surface cell} (f : Nat → cell) (dflt : cell) {x y : Nat}
    (hx : x < Config.screenWidth) (hy : y < surf.length) :
    Surface.cell (surf.set y (surfaceRow f)) dflt x y = f x := by
  unfold Surface.cell
  rw [List.getD_eq_getElem?_getD (a := ([] : List cell)), List.getElem?_set_self hy]
  exact surfaceRow_getD _ dflt hx

theorem Surface.cell_set_other {surf : Surface cell} (row : List cell) (dflt : cell) {x y k : Nat} (h : y ≠ k) :
    Surface.cell (surf.set k row) dflt x y = surf.cell dflt x y := by
  unfold Surface.cell
  rw [List.getD_eq_getElem?_getD (a := ([] : List cell)), List.getElem?_set_ne h.symm, ← List.getD_eq_getElem?_getD]

/-! ### Sizes -/

theorem Surface.sized_filled (v : cell) : (Surface.filled v).Sized := by
  unfold Surface.filled
  exact ⟨List.length_replicate, fun row h => by rw [List.eq_of_mem_replicate h]; exact List.length_replicate⟩

theorem length_surfaceRow (f : Nat → cell) : (surfaceRow f).length = Config.screenWidth := by simp [surfaceRow]

theorem sized_surfaceOf (f : Nat → Nat → cell) : (surfaceOf f).Sized := by
  refine ⟨by simp [surfaceOf], fun row h => ?_⟩
  obtain ⟨y, -, rfl⟩ := List.mem_map.1 h
  exact length_surfaceRow _

theorem Surface.Sized.set {surf : Surface cell} (h : surf.Sized) (k : Nat) (f : Nat → cell) :
    Surface.Sized (surf.set k (surfaceRow f)) := by
  refine ⟨by simpa using h.1, fun row hr => ?_⟩
  rcases List.mem_or_eq_of_mem_set hr with hr | rfl
  · exact h.2 _ hr
  · exact length_surfaceRow _

/-- A row rendered keeps the sizes. -/
theorem State.SurfacesSized.renderLine {s : State} (h : s.SurfacesSized) (ly : Nat) : (s.renderLine ly).SurfacesSized :=
  ⟨h.bg.set _ _, h.win.set _ _, h.spr, h.frame⟩

/-- A frame rendered keeps the sizes. -/
theorem State.SurfacesSized.renderFrame {s : State} (h : s.SurfacesSized) : s.renderFrame.SurfacesSized := by
  refine ⟨h.bg, h.win, ?_, sized_surfaceOf _⟩
  show Surface.Sized (if _ then _ else _)
  split
  · exact sized_surfaceOf _
  · exact Surface.sized_filled _

end Sys2Proof.Machine
end

