-- ==== Sys2Proof/Laws/Render.lean ====
section
/-! SUPPORT. What the renderer reads: video memory, the sprite attributes and its own registers, never LY, STAT or IF. Two
states that agree there render the same. -/

namespace Sys2Proof.Machine

/-! ### The renderer on the default bus

The definitions reach a register's cell past the bus (20_memory.md R77); on the default bus that is a bus access. -/

theorem State.tileAddr_eq (s : State) (idx : Byte) :
    s.tileAddr idx =
      if (s.memRead Params.lcdc).getLsbD 4 then 0x8000 + 16 * idx.setWidth 16 else 0x9000 + 16 * idx.signExtend 16 := rfl

theorem State.tileMap_eq (s : State) (bit : Nat) :
    s.tileMap bit = if (s.memRead Params.lcdc).getLsbD bit then 0x9C00 else 0x9800 := rfl

theorem State.windowOn_eq (s : State) (ly : Nat) :
    s.windowOn ly = ((s.memRead Params.lcdc).getLsbD 5 && decide (ly ≥ (s.memRead Params.wy).toNat)) := rfl

theorem State.winCell_eq (s : State) (ly x : Nat) :
    s.winCell ly x =
      if s.windowOn ly ∧ (s.memRead Params.wx).toNat ≤ x + 7 ∧
          x + 7 - (s.memRead Params.wx).toNat < Config.screenWidth then
        some (s.mapPixel (s.tileMap 6) (x + 7 - (s.memRead Params.wx).toNat) (ly - (s.memRead Params.wy).toNat))
      else none := rfl

theorem State.spriteHeight_eq (s : State) :
    s.spriteHeight = if (s.memRead Params.lcdc).getLsbD 2 then 16 else 8 := rfl

theorem State.renderFrame_sprSurface (s : State) :
    s.renderFrame.sprSurface =
      if (s.memRead Params.lcdc).getLsbD 1 then surfaceOf fun x y => s.topSprite x y else Surface.filled none := rfl

/-! ### States that differ in LY, STAT and IF only -/

/-- The two states agree on every byte but LY, STAT and IF. -/
def SameButLine (s t : State) : Prop :=
  ∀ k : Word, k ≠ Params.ly → k ≠ Params.stat → k ≠ Params.intFlag → t.memRead k = s.memRead k

theorem SameButLine.below {s t : State} (h : SameButLine s t) {k : Word} (hk : k.toNat < 0xFF00) :
    t.memRead k = s.memRead k := by
  refine h k ?_ ?_ ?_ <;> rintro rfl <;> revert hk <;> decide

/-- A tile of background and window lies in video memory. -/
theorem State.tileAddr_range (s : State) (idx : Byte) :
    0x8000 ≤ (s.tileAddr idx).toNat ∧ (s.tileAddr idx).toNat ≤ 0x97F0 := by
  have h1 : ∀ idx : Byte, 0x8000 ≤ (0x8000 + 16 * idx.setWidth 16 : Word).toNat ∧
      (0x8000 + 16 * idx.setWidth 16 : Word).toNat ≤ 0x97F0 := by decide
  have h2 : ∀ idx : Byte, 0x8000 ≤ (0x9000 + 16 * idx.signExtend 16 : Word).toNat ∧
      (0x9000 + 16 * idx.signExtend 16 : Word).toNat ≤ 0x97F0 := by decide
  unfold State.tileAddr
  split
  · exact h1 idx
  · exact h2 idx

theorem SameButLine.tilePixel {s t : State} (h : SameButLine s t) {addr : Word} (ha : addr.toNat ≤ 0x97F0) {row : Nat}
    (hr : row < 8) (col : Nat) : t.tilePixel addr row col = s.tilePixel addr row col := by
  have hlo : t.memRead (addr + BitVec.ofNat 16 (2 * row)) = s.memRead (addr + BitVec.ofNat 16 (2 * row)) :=
    h.below (by rw [BitVec.toNat_add, BitVec.toNat_ofNat]; omega)
  have hhi : t.memRead (addr + BitVec.ofNat 16 (2 * row + 1)) = s.memRead (addr + BitVec.ofNat 16 (2 * row + 1)) :=
    h.below (by rw [BitVec.toNat_add, BitVec.toNat_ofNat]; omega)
  unfold State.tilePixel
  rw [hlo, hhi]

/-- A register's cell is the same in the two states, but those of LY, STAT and IF. -/
theorem SameButLine.cellRead {s t : State} (h : SameButLine s t) {k : Word} (h1 : k ≠ Params.ly) (h2 : k ≠ Params.stat)
    (h3 : k ≠ Params.intFlag) : t.cellRead k = s.cellRead k := h k h1 h2 h3

theorem SameButLine.mapPixel {s t : State} (h : SameButLine s t) {map : Word} (hm : map.toNat ≤ 0x9C00) {px py : Nat}
    (hx : px < 256) (hy : py < 256) : t.mapPixel map px py = s.mapPixel map px py := by
  have hidx : t.memRead (map + BitVec.ofNat 16 (32 * (py / 8) + px / 8)) =
      s.memRead (map + BitVec.ofNat 16 (32 * (py / 8) + px / 8)) :=
    h.below (by rw [BitVec.toNat_add, BitVec.toNat_ofNat]; omega)
  have haddr : ∀ idx, t.tileAddr idx = s.tileAddr idx := by
    intro idx
    unfold State.tileAddr
    rw [h.cellRead (k := Params.lcdc) (by decide) (by decide) (by decide)]
  unfold State.mapPixel
  dsimp only
  rw [hidx, haddr, h.cellRead (k := Params.bgp) (by decide) (by decide) (by decide),
    h.tilePixel (s.tileAddr_range _).2 (Nat.mod_lt _ (by decide))]

theorem SameButLine.tileMap {s t : State} (h : SameButLine s t) (bit : Nat) : t.tileMap bit = s.tileMap bit := by
  unfold State.tileMap
  rw [h.cellRead (k := Params.lcdc) (by decide) (by decide) (by decide)]

theorem State.tileMap_le (s : State) (bit : Nat) : (s.tileMap bit).toNat ≤ 0x9C00 := by
  unfold State.tileMap
  split <;> decide

theorem SameButLine.bgPixel {s t : State} (h : SameButLine s t) (ly x : Nat) : t.bgPixel ly x = s.bgPixel ly x := by
  unfold State.bgPixel
  rw [h.cellRead (k := Params.scx) (by decide) (by decide) (by decide), h.cellRead (k := Params.scy) (by decide) (by decide) (by decide), h.tileMap,
    h.mapPixel (s.tileMap_le _) (Nat.mod_lt _ (by decide)) (Nat.mod_lt _ (by decide))]

theorem SameButLine.winCell {s t : State} (h : SameButLine s t) {ly : Nat} (hl : ly < 256) (x : Nat) :
    t.winCell ly x = s.winCell ly x := by
  have hon : t.windowOn ly = s.windowOn ly := by
    unfold State.windowOn
    rw [h.cellRead (k := Params.lcdc) (by decide) (by decide) (by decide), h.cellRead (k := Params.wy) (by decide) (by decide) (by decide)]
  unfold State.winCell
  rw [hon, h.cellRead (k := Params.wx) (by decide) (by decide) (by decide), h.cellRead (k := Params.wy) (by decide) (by decide) (by decide), h.tileMap]
  dsimp only
  split
  · rename_i hc
    have hw : x + 7 - (s.cellRead Params.wx).toNat < 160 := hc.2.2
    rw [h.mapPixel (s.tileMap_le _) (by omega) (by omega)]
  · rfl

/-- A row is rendered the same from the two states. -/
theorem SameButLine.renderLine {s t : State} (h : SameButLine s t) {ly : Nat} (hl : ly < 256)
    (hb : t.bgSurface = s.bgSurface) (hw : t.winSurface = s.winSurface) :
    (t.renderLine ly).bgSurface = (s.renderLine ly).bgSurface ∧
      (t.renderLine ly).winSurface = (s.renderLine ly).winSurface := by
  unfold State.renderLine
  simp only [State.bgSurface_setWinSurface, State.bgSurface_setBgSurface, State.winSurface_setWinSurface, hb, hw,
    h.bgPixel, h.winCell hl, and_self]

/-- Both heights are at most 16. -/
theorem State.spriteHeight_cases (s : State) : s.spriteHeight = 16 ∨ s.spriteHeight = 8 := by
  unfold State.spriteHeight
  split <;> simp

theorem SameButLine.oamByte {s t : State} (h : SameButLine s t) {slot k : Nat} (hs : slot < 40) (hk : k < 4) :
    t.oamByte slot k = s.oamByte slot k := by
  unfold State.oamByte
  refine h.below ?_
  rw [BitVec.toNat_add, BitVec.toNat_ofNat, show Params.oam.toNat = 0xFE00 from rfl]
  omega

theorem SameButLine.spriteCell {s t : State} (h : SameButLine s t) (hb : t.bgSurface = s.bgSurface)
    (hw : t.winSurface = s.winSurface) {slot : Nat} (hs : slot < 40) (x y : Nat) :
    t.spriteCell slot x y = s.spriteCell slot x y := by
  have htile : ∀ b : Byte, (0x8000 + 16 * b.setWidth 16 : Word).toNat ≤ 0x97F0 := by decide
  have hh : t.spriteHeight = s.spriteHeight := by
    unfold State.spriteHeight
    rw [h.cellRead (k := Params.lcdc) (by decide) (by decide) (by decide)]
  have hi : ∀ r c, t.spriteIndex slot r c = s.spriteIndex slot r c := by
    intro r c
    unfold State.spriteIndex
    rw [hh, h.oamByte hs (k := 3) (by decide), h.oamByte hs (k := 2) (by decide)]
    exact h.tilePixel (htile _) (Nat.mod_lt _ (by decide)) _
  have hu : t.under x y = s.under x y := by
    unfold State.under
    rw [hb, hw]
  have hp : ∀ b : Bool, t.cellRead (if b then Params.obp1 else Params.obp0) =
      s.cellRead (if b then Params.obp1 else Params.obp0) := by
    intro b
    cases b
    · exact h.cellRead (k := Params.obp0) (by decide) (by decide) (by decide)
    · exact h.cellRead (k := Params.obp1) (by decide) (by decide) (by decide)
  unfold State.spriteCell
  simp only [hh, h.oamByte hs (k := 0) (by decide), h.oamByte hs (k := 1) (by decide), h.oamByte hs (k := 3) (by decide),
    hu, hi, hp]

theorem findSome_congr {α β : Type} {f g : α → Option β} {l : List α} (h : ∀ a ∈ l, f a = g a) :
    l.findSome? f = l.findSome? g := by
  induction l with
  | nil => rfl
  | cons a l ih =>
    rw [List.findSome?_cons, List.findSome?_cons, h a (by simp), ih fun b hb => h b (by simp [hb])]

theorem SameButLine.topSprite {s t : State} (h : SameButLine s t) (hb : t.bgSurface = s.bgSurface)
    (hw : t.winSurface = s.winSurface) (x y : Nat) : t.topSprite x y = s.topSprite x y :=
  findSome_congr fun _ hs => h.spriteCell hb hw (List.mem_range.1 hs) x y

/-- A frame is rendered the same from the two states. -/
theorem SameButLine.renderFrame {s t : State} (h : SameButLine s t) (hb : t.bgSurface = s.bgSurface)
    (hw : t.winSurface = s.winSurface) :
    t.renderFrame.sprSurface = s.renderFrame.sprSurface ∧ t.renderFrame.frameBuffer = s.renderFrame.frameBuffer := by
  have hs : (if (t.cellRead Params.lcdc).getLsbD 1 then surfaceOf fun x y => t.topSprite x y else Surface.filled none) =
      (if (s.cellRead Params.lcdc).getLsbD 1 then surfaceOf fun x y => s.topSprite x y else Surface.filled none) := by
    simp only [h.cellRead (k := Params.lcdc) (by decide) (by decide) (by decide), h.topSprite hb hw]
  have hu : ∀ (v w : Surface (Option Shade)) x y, (t.setSprSurface v).under x y = (s.setSprSurface w).under x y := by
    intro v w x y
    simp only [State.under, State.winSurface_setSprSurface, State.bgSurface_setSprSurface, hb, hw]
  unfold State.renderFrame
  dsimp only
  rw [hs]
  refine ⟨rfl, ?_⟩
  simp only [State.frameBuffer_setFrames, State.frameBuffer_setFrameBuffer, State.sprSurface_setSprSurface,
    hu _ (if (s.cellRead Params.lcdc).getLsbD 1 then surfaceOf fun x y => s.topSprite x y else Surface.filled none)]

end Sys2Proof.Machine
end

