-- ==== Sys2Proof/Laws/Shape.lean ====
section
/-! SUPPORT. Every instruction is one of 62 shared operations at some operands: a case split over the 511 constructors is
made once, here, and a later proof splits over the shapes. Then the same for where an instruction stores, and for the rows
of one field pattern. -/

namespace Sys2Proof.Machine

/-- The shared operation an instruction is, with its operands. -/
inductive Shape where
  | ldReg (dst src : Reg)
  | ldRegImm (r : Reg) (n : Byte)
  | ldRegAtHl (r : Reg)
  | ldAtHlReg (r : Reg)
  | ldAtHlByte (n : Byte)
  | ldAPair (p : Pair)
  | ldAWord (nn : Word)
  | ldAHighC
  | ldAHighImm (n : Byte)
  | ldPairA (p : Pair)
  | ldWordA (nn : Word)
  | ldHighCA
  | ldHighImmA (n : Byte)
  | ldAStep (delta : Word)
  | ldStepA (delta : Word)
  | ldPairWord (p : Pair) (nn : Word)
  | ldAtWordSp (nn : Word)
  | ldSpFromHl
  | pushPair (p : StackPair)
  | popPair (p : StackPair)
  | ldHlFromSp (e : Byte)
  | aluReg (op : AluOp) (r : Reg)
  | aluAtHl (op : AluOp)
  | aluImm (op : AluOp) (n : Byte)
  | incReg (r : Reg)
  | incMem
  | decReg (r : Reg)
  | decMem
  | decimalAdjust
  | complementA
  | setCarry
  | complementCarry
  | addHlPair (p : Pair)
  | incPair (p : Pair)
  | decPair (p : Pair)
  | addSpImm (e : Byte)
  | rotAcc (k : AccRotOp)
  | rotReg (k : RotOp) (r : Reg)
  | rotMem (k : RotOp)
  | bitReg (b : Code3) (r : Reg)
  | bitMem (b : Code3)
  | resReg (b : Code3) (r : Reg)
  | resMem (b : Code3)
  | setBitReg (b : Code3) (r : Reg)
  | setBitMem (b : Code3)
  | jumpTo (nn : Word)
  | jumpIf (cc : Cond) (nn : Word)
  | jumpHl
  | jumpRel (e : Byte)
  | jumpRelIf (cc : Cond) (e : Byte)
  | callTo (nn : Word)
  | callIf (cc : Cond) (nn : Word)
  | returnPopping
  | returnIf (cc : Cond)
  | returnEnabling
  | restart (y : Code3)
  | noOperation
  | haltCpu
  | stopCpu
  | disableInterrupts
  | enableInterrupts
  | unrecognized (opcode : Byte)
  deriving DecidableEq, Repr

/-- The shared operation on a state. -/
def Shape.run (sh : Shape) (s : State) : Result :=
  match sh with
  | .ldReg dst src => Machine.ldReg dst src s
  | .ldRegImm r n => Machine.ldRegImm r n s
  | .ldRegAtHl r => Machine.ldRegAtHl r s
  | .ldAtHlReg r => Machine.ldAtHlReg r s
  | .ldAtHlByte n => Machine.ldAtHlByte n s
  | .ldAPair p => Machine.ldAFrom 1 (Params.cost .ldAtPair) (s.pair p) s
  | .ldAWord nn => Machine.ldAFrom 3 (Params.cost .ldAtWord) nn s
  | .ldAHighC => Machine.ldAFrom 1 (Params.cost .ldhAtC) (highPage s.c) s
  | .ldAHighImm n => Machine.ldAFrom 2 (Params.cost .ldhAtImm) (highPage n) s
  | .ldPairA p => Machine.ldToA 1 (Params.cost .ldAtPair) (s.pair p) s
  | .ldWordA nn => Machine.ldToA 3 (Params.cost .ldAtWord) nn s
  | .ldHighCA => Machine.ldToA 1 (Params.cost .ldhAtC) (highPage s.c) s
  | .ldHighImmA n => Machine.ldToA 2 (Params.cost .ldhAtImm) (highPage n) s
  | .ldAStep delta => Machine.ldAStep delta s
  | .ldStepA delta => Machine.ldStepA delta s
  | .ldPairWord p nn => Machine.ldPairWord p nn s
  | .ldAtWordSp nn => Machine.ldAtWordSp nn s
  | .ldSpFromHl => Machine.ldSpFromHl s
  | .pushPair p => Machine.pushPair p s
  | .popPair p => Machine.popPair p s
  | .ldHlFromSp e => Machine.ldHlFromSp e s
  | .aluReg op r => Machine.aluReg op r s
  | .aluAtHl op => Machine.aluAtHl op s
  | .aluImm op n => Machine.aluImm op n s
  | .incReg r => Machine.incReg r s
  | .incMem => Machine.incMem s
  | .decReg r => Machine.decReg r s
  | .decMem => Machine.decMem s
  | .decimalAdjust => Machine.decimalAdjust s
  | .complementA => Machine.complementA s
  | .setCarry => Machine.setCarry s
  | .complementCarry => Machine.complementCarry s
  | .addHlPair p => Machine.addHlPair p s
  | .incPair p => Machine.incPair p s
  | .decPair p => Machine.decPair p s
  | .addSpImm e => Machine.addSpImm e s
  | .rotAcc k => Machine.rotAcc k s
  | .rotReg k r => Machine.rotReg k r s
  | .rotMem k => Machine.rotMem k s
  | .bitReg b r => Machine.bitReg b r s
  | .bitMem b => Machine.bitMem b s
  | .resReg b r => Machine.resReg b r s
  | .resMem b => Machine.resMem b s
  | .setBitReg b r => Machine.setBitReg b r s
  | .setBitMem b => Machine.setBitMem b s
  | .jumpTo nn => Machine.jumpTo (Params.cost .jp) nn s
  | .jumpIf cc nn => Machine.jumpIf cc nn s
  | .jumpHl => Machine.jumpHl s
  | .jumpRel e => Machine.jumpRel (Params.cost .jr) e s
  | .jumpRelIf cc e => Machine.jumpRelIf cc e s
  | .callTo nn => Machine.callTo (Params.cost .call) nn s
  | .callIf cc nn => Machine.callIf cc nn s
  | .returnPopping => Machine.returnPopping (Params.cost .ret) s
  | .returnIf cc => Machine.returnIf cc s
  | .returnEnabling => Machine.returnEnabling s
  | .restart y => Machine.restart y s
  | .noOperation => Machine.noOperation s
  | .haltCpu => Machine.haltCpu s
  | .stopCpu => Machine.stopCpu s
  | .disableInterrupts => Machine.disableInterrupts s
  | .enableInterrupts => Machine.enableInterrupts s
  | .unrecognized opcode => Machine.unrecognized opcode s

/-- The shape of each instruction. -/
def shapeOf (i : Instr) : Shape :=
  match i with
  | .ldBcWord nn => .ldPairWord .bc nn
  | .ldBImm n => .ldRegImm .b n
  | .ldAtWordSp nn => .ldAtWordSp nn
  | .ldCImm n => .ldRegImm .c n
  | .ldDeWord nn => .ldPairWord .de nn
  | .ldDImm n => .ldRegImm .d n
  | .jrOff e => .jumpRel e
  | .ldEImm n => .ldRegImm .e n
  | .jrNzOff e => .jumpRelIf .nz e
  | .ldHlWord nn => .ldPairWord .hl nn
  | .ldHImm n => .ldRegImm .h n
  | .jrZOff e => .jumpRelIf .z e
  | .ldLImm n => .ldRegImm .l n
  | .jrNcOff e => .jumpRelIf .nc e
  | .ldSpWord nn => .ldPairWord .sp nn
  | .ldAtHlImm n => .ldAtHlByte n
  | .jrCOff e => .jumpRelIf .c e
  | .ldAImm n => .ldRegImm .a n
  | .jpNzWord nn => .jumpIf .nz nn
  | .jpWord nn => .jumpTo nn
  | .callNzWord nn => .callIf .nz nn
  | .addAImm n => .aluImm .add n
  | .jpZWord nn => .jumpIf .z nn
  | .callZWord nn => .callIf .z nn
  | .callWord nn => .callTo nn
  | .adcAImm n => .aluImm .adc n
  | .jpNcWord nn => .jumpIf .nc nn
  | .callNcWord nn => .callIf .nc nn
  | .subAImm n => .aluImm .sub n
  | .jpCWord nn => .jumpIf .c nn
  | .callCWord nn => .callIf .c nn
  | .sbcAImm n => .aluImm .sbc n
  | .ldhAtImmA n => .ldHighImmA n
  | .andAImm n => .aluImm .and n
  | .addSpOff e => .addSpImm e
  | .ldAtWordA nn => .ldWordA nn
  | .xorAImm n => .aluImm .xor n
  | .ldhAAtImm n => .ldAHighImm n
  | .orAImm n => .aluImm .or n
  | .ldHlSpOff e => .ldHlFromSp e
  | .ldAAtWord nn => .ldAWord nn
  | .cpAImm n => .aluImm .cp n
  | .nop => .noOperation
  | .ldAtBcA => .ldPairA .bc
  | .incBc => .incPair .bc
  | .incB => .incReg .b
  | .decB => .decReg .b
  | .rlca => .rotAcc .rlca
  | .addHlBc => .addHlPair .bc
  | .ldAAtBc => .ldAPair .bc
  | .decBc => .decPair .bc
  | .incC => .incReg .c
  | .decC => .decReg .c
  | .rrca => .rotAcc .rrca
  | .stop => .stopCpu
  | .ldAtDeA => .ldPairA .de
  | .incDe => .incPair .de
  | .incD => .incReg .d
  | .decD => .decReg .d
  | .rla => .rotAcc .rla
  | .addHlDe => .addHlPair .de
  | .ldAAtDe => .ldAPair .de
  | .decDe => .decPair .de
  | .incE => .incReg .e
  | .decE => .decReg .e
  | .rra => .rotAcc .rra
  | .ldAtHlIncA => .ldStepA 1
  | .incHl => .incPair .hl
  | .incH => .incReg .h
  | .decH => .decReg .h
  | .daa => .decimalAdjust
  | .addHlHl => .addHlPair .hl
  | .ldAAtHlInc => .ldAStep 1
  | .decHl => .decPair .hl
  | .incL => .incReg .l
  | .decL => .decReg .l
  | .cpl => .complementA
  | .ldAtHlDecA => .ldStepA (-1)
  | .incSp => .incPair .sp
  | .incAtHl => .incMem
  | .decAtHl => .decMem
  | .scf => .setCarry
  | .addHlSp => .addHlPair .sp
  | .ldAAtHlDec => .ldAStep (-1)
  | .decSp => .decPair .sp
  | .incA => .incReg .a
  | .decA => .decReg .a
  | .ccf => .complementCarry
  | .ldBB => .ldReg .b .b
  | .ldBC => .ldReg .b .c
  | .ldBD => .ldReg .b .d
  | .ldBE => .ldReg .b .e
  | .ldBH => .ldReg .b .h
  | .ldBL => .ldReg .b .l
  | .ldBAtHl => .ldRegAtHl .b
  | .ldBA => .ldReg .b .a
  | .ldCB => .ldReg .c .b
  | .ldCC => .ldReg .c .c
  | .ldCD => .ldReg .c .d
  | .ldCE => .ldReg .c .e
  | .ldCH => .ldReg .c .h
  | .ldCL => .ldReg .c .l
  | .ldCAtHl => .ldRegAtHl .c
  | .ldCA => .ldReg .c .a
  | .ldDB => .ldReg .d .b
  | .ldDC => .ldReg .d .c
  | .ldDD => .ldReg .d .d
  | .ldDE => .ldReg .d .e
  | .ldDH => .ldReg .d .h
  | .ldDL => .ldReg .d .l
  | .ldDAtHl => .ldRegAtHl .d
  | .ldDA => .ldReg .d .a
  | .ldEB => .ldReg .e .b
  | .ldEC => .ldReg .e .c
  | .ldED => .ldReg .e .d
  | .ldEE => .ldReg .e .e
  | .ldEH => .ldReg .e .h
  | .ldEL => .ldReg .e .l
  | .ldEAtHl => .ldRegAtHl .e
  | .ldEA => .ldReg .e .a
  | .ldHB => .ldReg .h .b
  | .ldHC => .ldReg .h .c
  | .ldHD => .ldReg .h .d
  | .ldHE => .ldReg .h .e
  | .ldHH => .ldReg .h .h
  | .ldHL => .ldReg .h .l
  | .ldHAtHl => .ldRegAtHl .h
  | .ldHA => .ldReg .h .a
  | .ldLB => .ldReg .l .b
  | .ldLC => .ldReg .l .c
  | .ldLD => .ldReg .l .d
  | .ldLE => .ldReg .l .e
  | .ldLH => .ldReg .l .h
  | .ldLL => .ldReg .l .l
  | .ldLAtHl => .ldRegAtHl .l
  | .ldLA => .ldReg .l .a
  | .ldAtHlB => .ldAtHlReg .b
  | .ldAtHlC => .ldAtHlReg .c
  | .ldAtHlD => .ldAtHlReg .d
  | .ldAtHlE => .ldAtHlReg .e
  | .ldAtHlH => .ldAtHlReg .h
  | .ldAtHlL => .ldAtHlReg .l
  | .halt => .haltCpu
  | .ldAtHlA => .ldAtHlReg .a
  | .ldAB => .ldReg .a .b
  | .ldAC => .ldReg .a .c
  | .ldAD => .ldReg .a .d
  | .ldAE => .ldReg .a .e
  | .ldAH => .ldReg .a .h
  | .ldAL => .ldReg .a .l
  | .ldAAtHl => .ldRegAtHl .a
  | .ldAA => .ldReg .a .a
  | .addAB => .aluReg .add .b
  | .addAC => .aluReg .add .c
  | .addAD => .aluReg .add .d
  | .addAE => .aluReg .add .e
  | .addAH => .aluReg .add .h
  | .addAL => .aluReg .add .l
  | .addAAtHl => .aluAtHl .add
  | .addAA => .aluReg .add .a
  | .adcAB => .aluReg .adc .b
  | .adcAC => .aluReg .adc .c
  | .adcAD => .aluReg .adc .d
  | .adcAE => .aluReg .adc .e
  | .adcAH => .aluReg .adc .h
  | .adcAL => .aluReg .adc .l
  | .adcAAtHl => .aluAtHl .adc
  | .adcAA => .aluReg .adc .a
  | .subAB => .aluReg .sub .b
  | .subAC => .aluReg .sub .c
  | .subAD => .aluReg .sub .d
  | .subAE => .aluReg .sub .e
  | .subAH => .aluReg .sub .h
  | .subAL => .aluReg .sub .l
  | .subAAtHl => .aluAtHl .sub
  | .subAA => .aluReg .sub .a
  | .sbcAB => .aluReg .sbc .b
  | .sbcAC => .aluReg .sbc .c
  | .sbcAD => .aluReg .sbc .d
  | .sbcAE => .aluReg .sbc .e
  | .sbcAH => .aluReg .sbc .h
  | .sbcAL => .aluReg .sbc .l
  | .sbcAAtHl => .aluAtHl .sbc
  | .sbcAA => .aluReg .sbc .a
  | .andAB => .aluReg .and .b
  | .andAC => .aluReg .and .c
  | .andAD => .aluReg .and .d
  | .andAE => .aluReg .and .e
  | .andAH => .aluReg .and .h
  | .andAL => .aluReg .and .l
  | .andAAtHl => .aluAtHl .and
  | .andAA => .aluReg .and .a
  | .xorAB => .aluReg .xor .b
  | .xorAC => .aluReg .xor .c
  | .xorAD => .aluReg .xor .d
  | .xorAE => .aluReg .xor .e
  | .xorAH => .aluReg .xor .h
  | .xorAL => .aluReg .xor .l
  | .xorAAtHl => .aluAtHl .xor
  | .xorAA => .aluReg .xor .a
  | .orAB => .aluReg .or .b
  | .orAC => .aluReg .or .c
  | .orAD => .aluReg .or .d
  | .orAE => .aluReg .or .e
  | .orAH => .aluReg .or .h
  | .orAL => .aluReg .or .l
  | .orAAtHl => .aluAtHl .or
  | .orAA => .aluReg .or .a
  | .cpAB => .aluReg .cp .b
  | .cpAC => .aluReg .cp .c
  | .cpAD => .aluReg .cp .d
  | .cpAE => .aluReg .cp .e
  | .cpAH => .aluReg .cp .h
  | .cpAL => .aluReg .cp .l
  | .cpAAtHl => .aluAtHl .cp
  | .cpAA => .aluReg .cp .a
  | .retNz => .returnIf .nz
  | .popBc => .popPair .bc
  | .pushBc => .pushPair .bc
  | .rst00 => .restart .k0
  | .retZ => .returnIf .z
  | .ret => .returnPopping
  | .rst08 => .restart .k1
  | .retNc => .returnIf .nc
  | .popDe => .popPair .de
  | .illegalD3 => .unrecognized 0xD3
  | .pushDe => .pushPair .de
  | .rst10 => .restart .k2
  | .retC => .returnIf .c
  | .reti => .returnEnabling
  | .illegalDB => .unrecognized 0xDB
  | .illegalDD => .unrecognized 0xDD
  | .rst18 => .restart .k3
  | .popHl => .popPair .hl
  | .ldhAtCA => .ldHighCA
  | .illegalE3 => .unrecognized 0xE3
  | .illegalE4 => .unrecognized 0xE4
  | .pushHl => .pushPair .hl
  | .rst20 => .restart .k4
  | .jpHl => .jumpHl
  | .illegalEB => .unrecognized 0xEB
  | .illegalEC => .unrecognized 0xEC
  | .illegalED => .unrecognized 0xED
  | .rst28 => .restart .k5
  | .popAf => .popPair .af
  | .ldhAAtC => .ldAHighC
  | .di => .disableInterrupts
  | .illegalF4 => .unrecognized 0xF4
  | .pushAf => .pushPair .af
  | .rst30 => .restart .k6
  | .ldSpHl => .ldSpFromHl
  | .ei => .enableInterrupts
  | .illegalFC => .unrecognized 0xFC
  | .illegalFD => .unrecognized 0xFD
  | .rst38 => .restart .k7
  | .rlcB => .rotReg .rlc .b
  | .rlcC => .rotReg .rlc .c
  | .rlcD => .rotReg .rlc .d
  | .rlcE => .rotReg .rlc .e
  | .rlcH => .rotReg .rlc .h
  | .rlcL => .rotReg .rlc .l
  | .rlcAtHl => .rotMem .rlc
  | .rlcA => .rotReg .rlc .a
  | .rrcB => .rotReg .rrc .b
  | .rrcC => .rotReg .rrc .c
  | .rrcD => .rotReg .rrc .d
  | .rrcE => .rotReg .rrc .e
  | .rrcH => .rotReg .rrc .h
  | .rrcL => .rotReg .rrc .l
  | .rrcAtHl => .rotMem .rrc
  | .rrcA => .rotReg .rrc .a
  | .rlB => .rotReg .rl .b
  | .rlC => .rotReg .rl .c
  | .rlD => .rotReg .rl .d
  | .rlE => .rotReg .rl .e
  | .rlH => .rotReg .rl .h
  | .rlL => .rotReg .rl .l
  | .rlAtHl => .rotMem .rl
  | .rlA => .rotReg .rl .a
  | .rrB => .rotReg .rr .b
  | .rrC => .rotReg .rr .c
  | .rrD => .rotReg .rr .d
  | .rrE => .rotReg .rr .e
  | .rrH => .rotReg .rr .h
  | .rrL => .rotReg .rr .l
  | .rrAtHl => .rotMem .rr
  | .rrA => .rotReg .rr .a
  | .slaB => .rotReg .sla .b
  | .slaC => .rotReg .sla .c
  | .slaD => .rotReg .sla .d
  | .slaE => .rotReg .sla .e
  | .slaH => .rotReg .sla .h
  | .slaL => .rotReg .sla .l
  | .slaAtHl => .rotMem .sla
  | .slaA => .rotReg .sla .a
  | .sraB => .rotReg .sra .b
  | .sraC => .rotReg .sra .c
  | .sraD => .rotReg .sra .d
  | .sraE => .rotReg .sra .e
  | .sraH => .rotReg .sra .h
  | .sraL => .rotReg .sra .l
  | .sraAtHl => .rotMem .sra
  | .sraA => .rotReg .sra .a
  | .swapB => .rotReg .swap .b
  | .swapC => .rotReg .swap .c
  | .swapD => .rotReg .swap .d
  | .swapE => .rotReg .swap .e
  | .swapH => .rotReg .swap .h
  | .swapL => .rotReg .swap .l
  | .swapAtHl => .rotMem .swap
  | .swapA => .rotReg .swap .a
  | .srlB => .rotReg .srl .b
  | .srlC => .rotReg .srl .c
  | .srlD => .rotReg .srl .d
  | .srlE => .rotReg .srl .e
  | .srlH => .rotReg .srl .h
  | .srlL => .rotReg .srl .l
  | .srlAtHl => .rotMem .srl
  | .srlA => .rotReg .srl .a
  | .bit0B => .bitReg .k0 .b
  | .bit0C => .bitReg .k0 .c
  | .bit0D => .bitReg .k0 .d
  | .bit0E => .bitReg .k0 .e
  | .bit0H => .bitReg .k0 .h
  | .bit0L => .bitReg .k0 .l
  | .bit0AtHl => .bitMem .k0
  | .bit0A => .bitReg .k0 .a
  | .bit1B => .bitReg .k1 .b
  | .bit1C => .bitReg .k1 .c
  | .bit1D => .bitReg .k1 .d
  | .bit1E => .bitReg .k1 .e
  | .bit1H => .bitReg .k1 .h
  | .bit1L => .bitReg .k1 .l
  | .bit1AtHl => .bitMem .k1
  | .bit1A => .bitReg .k1 .a
  | .bit2B => .bitReg .k2 .b
  | .bit2C => .bitReg .k2 .c
  | .bit2D => .bitReg .k2 .d
  | .bit2E => .bitReg .k2 .e
  | .bit2H => .bitReg .k2 .h
  | .bit2L => .bitReg .k2 .l
  | .bit2AtHl => .bitMem .k2
  | .bit2A => .bitReg .k2 .a
  | .bit3B => .bitReg .k3 .b
  | .bit3C => .bitReg .k3 .c
  | .bit3D => .bitReg .k3 .d
  | .bit3E => .bitReg .k3 .e
  | .bit3H => .bitReg .k3 .h
  | .bit3L => .bitReg .k3 .l
  | .bit3AtHl => .bitMem .k3
  | .bit3A => .bitReg .k3 .a
  | .bit4B => .bitReg .k4 .b
  | .bit4C => .bitReg .k4 .c
  | .bit4D => .bitReg .k4 .d
  | .bit4E => .bitReg .k4 .e
  | .bit4H => .bitReg .k4 .h
  | .bit4L => .bitReg .k4 .l
  | .bit4AtHl => .bitMem .k4
  | .bit4A => .bitReg .k4 .a
  | .bit5B => .bitReg .k5 .b
  | .bit5C => .bitReg .k5 .c
  | .bit5D => .bitReg .k5 .d
  | .bit5E => .bitReg .k5 .e
  | .bit5H => .bitReg .k5 .h
  | .bit5L => .bitReg .k5 .l
  | .bit5AtHl => .bitMem .k5
  | .bit5A => .bitReg .k5 .a
  | .bit6B => .bitReg .k6 .b
  | .bit6C => .bitReg .k6 .c
  | .bit6D => .bitReg .k6 .d
  | .bit6E => .bitReg .k6 .e
  | .bit6H => .bitReg .k6 .h
  | .bit6L => .bitReg .k6 .l
  | .bit6AtHl => .bitMem .k6
  | .bit6A => .bitReg .k6 .a
  | .bit7B => .bitReg .k7 .b
  | .bit7C => .bitReg .k7 .c
  | .bit7D => .bitReg .k7 .d
  | .bit7E => .bitReg .k7 .e
  | .bit7H => .bitReg .k7 .h
  | .bit7L => .bitReg .k7 .l
  | .bit7AtHl => .bitMem .k7
  | .bit7A => .bitReg .k7 .a
  | .res0B => .resReg .k0 .b
  | .res0C => .resReg .k0 .c
  | .res0D => .resReg .k0 .d
  | .res0E => .resReg .k0 .e
  | .res0H => .resReg .k0 .h
  | .res0L => .resReg .k0 .l
  | .res0AtHl => .resMem .k0
  | .res0A => .resReg .k0 .a
  | .res1B => .resReg .k1 .b
  | .res1C => .resReg .k1 .c
  | .res1D => .resReg .k1 .d
  | .res1E => .resReg .k1 .e
  | .res1H => .resReg .k1 .h
  | .res1L => .resReg .k1 .l
  | .res1AtHl => .resMem .k1
  | .res1A => .resReg .k1 .a
  | .res2B => .resReg .k2 .b
  | .res2C => .resReg .k2 .c
  | .res2D => .resReg .k2 .d
  | .res2E => .resReg .k2 .e
  | .res2H => .resReg .k2 .h
  | .res2L => .resReg .k2 .l
  | .res2AtHl => .resMem .k2
  | .res2A => .resReg .k2 .a
  | .res3B => .resReg .k3 .b
  | .res3C => .resReg .k3 .c
  | .res3D => .resReg .k3 .d
  | .res3E => .resReg .k3 .e
  | .res3H => .resReg .k3 .h
  | .res3L => .resReg .k3 .l
  | .res3AtHl => .resMem .k3
  | .res3A => .resReg .k3 .a
  | .res4B => .resReg .k4 .b
  | .res4C => .resReg .k4 .c
  | .res4D => .resReg .k4 .d
  | .res4E => .resReg .k4 .e
  | .res4H => .resReg .k4 .h
  | .res4L => .resReg .k4 .l
  | .res4AtHl => .resMem .k4
  | .res4A => .resReg .k4 .a
  | .res5B => .resReg .k5 .b
  | .res5C => .resReg .k5 .c
  | .res5D => .resReg .k5 .d
  | .res5E => .resReg .k5 .e
  | .res5H => .resReg .k5 .h
  | .res5L => .resReg .k5 .l
  | .res5AtHl => .resMem .k5
  | .res5A => .resReg .k5 .a
  | .res6B => .resReg .k6 .b
  | .res6C => .resReg .k6 .c
  | .res6D => .resReg .k6 .d
  | .res6E => .resReg .k6 .e
  | .res6H => .resReg .k6 .h
  | .res6L => .resReg .k6 .l
  | .res6AtHl => .resMem .k6
  | .res6A => .resReg .k6 .a
  | .res7B => .resReg .k7 .b
  | .res7C => .resReg .k7 .c
  | .res7D => .resReg .k7 .d
  | .res7E => .resReg .k7 .e
  | .res7H => .resReg .k7 .h
  | .res7L => .resReg .k7 .l
  | .res7AtHl => .resMem .k7
  | .res7A => .resReg .k7 .a
  | .set0B => .setBitReg .k0 .b
  | .set0C => .setBitReg .k0 .c
  | .set0D => .setBitReg .k0 .d
  | .set0E => .setBitReg .k0 .e
  | .set0H => .setBitReg .k0 .h
  | .set0L => .setBitReg .k0 .l
  | .set0AtHl => .setBitMem .k0
  | .set0A => .setBitReg .k0 .a
  | .set1B => .setBitReg .k1 .b
  | .set1C => .setBitReg .k1 .c
  | .set1D => .setBitReg .k1 .d
  | .set1E => .setBitReg .k1 .e
  | .set1H => .setBitReg .k1 .h
  | .set1L => .setBitReg .k1 .l
  | .set1AtHl => .setBitMem .k1
  | .set1A => .setBitReg .k1 .a
  | .set2B => .setBitReg .k2 .b
  | .set2C => .setBitReg .k2 .c
  | .set2D => .setBitReg .k2 .d
  | .set2E => .setBitReg .k2 .e
  | .set2H => .setBitReg .k2 .h
  | .set2L => .setBitReg .k2 .l
  | .set2AtHl => .setBitMem .k2
  | .set2A => .setBitReg .k2 .a
  | .set3B => .setBitReg .k3 .b
  | .set3C => .setBitReg .k3 .c
  | .set3D => .setBitReg .k3 .d
  | .set3E => .setBitReg .k3 .e
  | .set3H => .setBitReg .k3 .h
  | .set3L => .setBitReg .k3 .l
  | .set3AtHl => .setBitMem .k3
  | .set3A => .setBitReg .k3 .a
  | .set4B => .setBitReg .k4 .b
  | .set4C => .setBitReg .k4 .c
  | .set4D => .setBitReg .k4 .d
  | .set4E => .setBitReg .k4 .e
  | .set4H => .setBitReg .k4 .h
  | .set4L => .setBitReg .k4 .l
  | .set4AtHl => .setBitMem .k4
  | .set4A => .setBitReg .k4 .a
  | .set5B => .setBitReg .k5 .b
  | .set5C => .setBitReg .k5 .c
  | .set5D => .setBitReg .k5 .d
  | .set5E => .setBitReg .k5 .e
  | .set5H => .setBitReg .k5 .h
  | .set5L => .setBitReg .k5 .l
  | .set5AtHl => .setBitMem .k5
  | .set5A => .setBitReg .k5 .a
  | .set6B => .setBitReg .k6 .b
  | .set6C => .setBitReg .k6 .c
  | .set6D => .setBitReg .k6 .d
  | .set6E => .setBitReg .k6 .e
  | .set6H => .setBitReg .k6 .h
  | .set6L => .setBitReg .k6 .l
  | .set6AtHl => .setBitMem .k6
  | .set6A => .setBitReg .k6 .a
  | .set7B => .setBitReg .k7 .b
  | .set7C => .setBitReg .k7 .c
  | .set7D => .setBitReg .k7 .d
  | .set7E => .setBitReg .k7 .e
  | .set7H => .setBitReg .k7 .h
  | .set7L => .setBitReg .k7 .l
  | .set7AtHl => .setBitMem .k7
  | .set7A => .setBitReg .k7 .a

/-- The meaning of an instruction is its shape's. -/
theorem exec_eq_run (i : Instr) (s : State) : exec i s = (shapeOf i).run s := by cases i <;> rfl

/-- The addresses the shared operation stores to. -/
def Shape.stored (sh : Shape) (s : State) : List Word :=
  match sh with
  | .ldReg _ _ => []
  | .ldRegImm _ _ => []
  | .ldRegAtHl _ => []
  | .ldAtHlReg _ => [s.hl]
  | .ldAtHlByte _ => [s.hl]
  | .ldAPair _ => []
  | .ldAWord _ => []
  | .ldAHighC => []
  | .ldAHighImm _ => []
  | .ldPairA p => [s.pair p]
  | .ldWordA nn => [nn]
  | .ldHighCA => [highPage s.c]
  | .ldHighImmA n => [highPage n]
  | .ldAStep _ => []
  | .ldStepA _ => [s.hl]
  | .ldPairWord _ _ => []
  | .ldAtWordSp nn => [nn, nn + 1]
  | .ldSpFromHl => []
  | .pushPair _ => s.belowSp
  | .popPair _ => []
  | .ldHlFromSp _ => []
  | .aluReg _ _ => []
  | .aluAtHl _ => []
  | .aluImm _ _ => []
  | .incReg _ => []
  | .incMem => [s.hl]
  | .decReg _ => []
  | .decMem => [s.hl]
  | .decimalAdjust => []
  | .complementA => []
  | .setCarry => []
  | .complementCarry => []
  | .addHlPair _ => []
  | .incPair _ => []
  | .decPair _ => []
  | .addSpImm _ => []
  | .rotAcc _ => []
  | .rotReg _ _ => []
  | .rotMem _ => [s.hl]
  | .bitReg _ _ => []
  | .bitMem _ => []
  | .resReg _ _ => []
  | .resMem _ => [s.hl]
  | .setBitReg _ _ => []
  | .setBitMem _ => [s.hl]
  | .jumpTo _ => []
  | .jumpIf _ _ => []
  | .jumpHl => []
  | .jumpRel _ => []
  | .jumpRelIf _ _ => []
  | .callTo _ => s.belowSp
  | .callIf cc _ => if s.holds cc then s.belowSp else []
  | .returnPopping => []
  | .returnIf _ => []
  | .returnEnabling => []
  | .restart _ => s.belowSp
  | .noOperation => []
  | .haltCpu => []
  | .stopCpu => []
  | .disableInterrupts => []
  | .enableInterrupts => []
  | .unrecognized _ => []

/-- Where an instruction stores is where its shape does. -/
theorem storedTo_eq_stored (i : Instr) (s : State) : storedTo i s = (shapeOf i).stored s := by cases i <;> rfl

/-! ### The rows of one field pattern -/

variable (s : State)

theorem exec_ldReg (dst : Reg) (src : Reg) : exec (Row.ldReg dst src) s = Machine.ldReg dst src s := by
  cases dst <;> cases src <;> rfl
theorem exec_ldRegImm (r : Reg) (n : Byte) : exec (Row.ldRegImm r n) s = Machine.ldRegImm r n s := by
  cases r <;> rfl
theorem exec_ldRegAtHl (r : Reg) : exec (Row.ldRegAtHl r) s = Machine.ldRegAtHl r s := by
  cases r <;> rfl
theorem exec_ldAtHlReg (r : Reg) : exec (Row.ldAtHlReg r) s = Machine.ldAtHlReg r s := by
  cases r <;> rfl
theorem exec_ldPairWord (p : Pair) (nn : Word) : exec (Row.ldPairWord p nn) s = Machine.ldPairWord p nn s := by
  cases p <;> rfl
theorem exec_pushPair (p : StackPair) : exec (Row.pushPair p) s = Machine.pushPair p s := by
  cases p <;> rfl
theorem exec_popPair (p : StackPair) : exec (Row.popPair p) s = Machine.popPair p s := by
  cases p <;> rfl
theorem exec_aluReg (op : AluOp) (r : Reg) : exec (Row.aluReg op r) s = Machine.aluReg op r s := by
  cases op <;> cases r <;> rfl
theorem exec_aluAtHl (op : AluOp) : exec (Row.aluAtHl op) s = Machine.aluAtHl op s := by
  cases op <;> rfl
theorem exec_aluImm (op : AluOp) (n : Byte) : exec (Row.aluImm op n) s = Machine.aluImm op n s := by
  cases op <;> rfl
theorem exec_incReg (r : Reg) : exec (Row.incReg r) s = Machine.incReg r s := by
  cases r <;> rfl
theorem exec_decReg (r : Reg) : exec (Row.decReg r) s = Machine.decReg r s := by
  cases r <;> rfl
theorem exec_addHlPair (p : Pair) : exec (Row.addHlPair p) s = Machine.addHlPair p s := by
  cases p <;> rfl
theorem exec_incPair (p : Pair) : exec (Row.incPair p) s = Machine.incPair p s := by
  cases p <;> rfl
theorem exec_decPair (p : Pair) : exec (Row.decPair p) s = Machine.decPair p s := by
  cases p <;> rfl
theorem exec_rotAcc (k : AccRotOp) : exec (Row.rotAcc k) s = Machine.rotAcc k s := by
  cases k <;> rfl
theorem exec_rotReg (k : RotOp) (r : Reg) : exec (Row.rotReg k r) s = Machine.rotReg k r s := by
  cases k <;> cases r <;> rfl
theorem exec_rotMem (k : RotOp) : exec (Row.rotMem k) s = Machine.rotMem k s := by
  cases k <;> rfl
theorem exec_bitReg (b : Code3) (r : Reg) : exec (Row.bitReg b r) s = Machine.bitReg b r s := by
  cases b <;> cases r <;> rfl
theorem exec_bitMem (b : Code3) : exec (Row.bitMem b) s = Machine.bitMem b s := by
  cases b <;> rfl
theorem exec_resReg (b : Code3) (r : Reg) : exec (Row.resReg b r) s = Machine.resReg b r s := by
  cases b <;> cases r <;> rfl
theorem exec_resMem (b : Code3) : exec (Row.resMem b) s = Machine.resMem b s := by
  cases b <;> rfl
theorem exec_setBitReg (b : Code3) (r : Reg) : exec (Row.setBitReg b r) s = Machine.setBitReg b r s := by
  cases b <;> cases r <;> rfl
theorem exec_setBitMem (b : Code3) : exec (Row.setBitMem b) s = Machine.setBitMem b s := by
  cases b <;> rfl
theorem exec_jumpIf (cc : Cond) (nn : Word) : exec (Row.jumpIf cc nn) s = Machine.jumpIf cc nn s := by
  cases cc <;> rfl
theorem exec_jumpRelIf (cc : Cond) (e : Byte) : exec (Row.jumpRelIf cc e) s = Machine.jumpRelIf cc e s := by
  cases cc <;> rfl
theorem exec_callIf (cc : Cond) (nn : Word) : exec (Row.callIf cc nn) s = Machine.callIf cc nn s := by
  cases cc <;> rfl
theorem exec_returnIf (cc : Cond) : exec (Row.returnIf cc) s = Machine.returnIf cc s := by
  cases cc <;> rfl
theorem exec_restart (y : Code3) : exec (Row.restart y) s = Machine.restart y s := by
  cases y <;> rfl

/-! ### The instructions of a shape that has one -/

theorem shapeOf_stop {i : Instr} (h : shapeOf i = .stopCpu) : i = .stop := by
  cases i <;> first | rfl | cases h

theorem shapeOf_unrecognized {i : Instr} {opcode : Byte} (h : shapeOf i = .unrecognized opcode) :
    i.wellFormed = false := by
  cases i <;> first | rfl | cases h

theorem shapeOf_ei (i : Instr) : shapeOf i = .enableInterrupts ↔ i = .ei := by
  constructor
  · cases i <;> first | (intro _; rfl) | (intro h; cases h)
  · rintro rfl; rfl

theorem shapeOf_di (i : Instr) : shapeOf i = .disableInterrupts ↔ i = .di := by
  constructor
  · cases i <;> first | (intro _; rfl) | (intro h; cases h)
  · rintro rfl; rfl

theorem shapeOf_reti (i : Instr) : shapeOf i = .returnEnabling ↔ i = .reti := by
  constructor
  · cases i <;> first | (intro _; rfl) | (intro h; cases h)
  · rintro rfl; rfl

theorem shapeOf_halt (i : Instr) : shapeOf i = .haltCpu ↔ i = .halt := by
  constructor
  · cases i <;> first | (intro _; rfl) | (intro h; cases h)
  · rintro rfl; rfl

end Sys2Proof.Machine
end

