-- ==== Sys2Proof/Tests/Slice0.lean ====
section
/-! SUPPORT. Tests of the author's own: the check on ill-formed instructions, every cell of the opcode maps of 30_encoding.md
R101 and R102, vectors of 95_test_vectors.md on one step each, and a witness for the hypotheses of every statement. -/

namespace Sys2Proof

open Machine

/-! ### WellFormed: the eleven unrecognized opcodes are refused (R103), the others accepted -/

theorem test_illegal_D3_refused : Instr.illegalD3.wellFormed = false := by decide
theorem test_illegal_DB_refused : Instr.illegalDB.wellFormed = false := by decide
theorem test_illegal_DD_refused : Instr.illegalDD.wellFormed = false := by decide
theorem test_illegal_E3_refused : Instr.illegalE3.wellFormed = false := by decide
theorem test_illegal_E4_refused : Instr.illegalE4.wellFormed = false := by decide
theorem test_illegal_EB_refused : Instr.illegalEB.wellFormed = false := by decide
theorem test_illegal_EC_refused : Instr.illegalEC.wellFormed = false := by decide
theorem test_illegal_ED_refused : Instr.illegalED.wellFormed = false := by decide
theorem test_illegal_F4_refused : Instr.illegalF4.wellFormed = false := by decide
theorem test_illegal_FC_refused : Instr.illegalFC.wellFormed = false := by decide
theorem test_illegal_FD_refused : Instr.illegalFD.wellFormed = false := by decide
theorem test_legal_accepted : Instr.nop.wellFormed ∧ Instr.stop.wellFormed ∧ (Instr.callWord 0xFFFF).wellFormed := by decide

/-! ### Decode, row by row of the primary map (R101) and of the extended map (R102) -/

/-- The bytes decode to the instruction and nothing is left. -/
def decodesTo (bytes : List Byte) (i : Instr) : Prop := decode bytes = .ok (i, [])

theorem test_decode_row_0x :
    decodesTo [0x00] .nop ∧
    decodesTo [0x01, 0x34, 0x12] (.ldBcWord 0x1234) ∧
    decodesTo [0x02] .ldAtBcA ∧
    decodesTo [0x03] .incBc ∧
    decodesTo [0x04] .incB ∧
    decodesTo [0x05] .decB ∧
    decodesTo [0x06, 0xA5] (.ldBImm 0xA5) ∧
    decodesTo [0x07] .rlca ∧
    decodesTo [0x08, 0x34, 0x12] (.ldAtWordSp 0x1234) ∧
    decodesTo [0x09] .addHlBc ∧
    decodesTo [0x0A] .ldAAtBc ∧
    decodesTo [0x0B] .decBc ∧
    decodesTo [0x0C] .incC ∧
    decodesTo [0x0D] .decC ∧
    decodesTo [0x0E, 0xA5] (.ldCImm 0xA5) ∧
    decodesTo [0x0F] .rrca :=
  ⟨rfl, rfl, rfl, rfl, rfl, rfl, rfl, rfl, rfl, rfl, rfl, rfl, rfl, rfl, rfl, rfl⟩

theorem test_decode_row_1x :
    decodesTo [0x10, 0x5A] .stop ∧
    decodesTo [0x11, 0x34, 0x12] (.ldDeWord 0x1234) ∧
    decodesTo [0x12] .ldAtDeA ∧
    decodesTo [0x13] .incDe ∧
    decodesTo [0x14] .incD ∧
    decodesTo [0x15] .decD ∧
    decodesTo [0x16, 0xA5] (.ldDImm 0xA5) ∧
    decodesTo [0x17] .rla ∧
    decodesTo [0x18, 0xA5] (.jrOff 0xA5) ∧
    decodesTo [0x19] .addHlDe ∧
    decodesTo [0x1A] .ldAAtDe ∧
    decodesTo [0x1B] .decDe ∧
    decodesTo [0x1C] .incE ∧
    decodesTo [0x1D] .decE ∧
    decodesTo [0x1E, 0xA5] (.ldEImm 0xA5) ∧
    decodesTo [0x1F] .rra :=
  ⟨rfl, rfl, rfl, rfl, rfl, rfl, rfl, rfl, rfl, rfl, rfl, rfl, rfl, rfl, rfl, rfl⟩

theorem test_decode_row_2x :
    decodesTo [0x20, 0xA5] (.jrNzOff 0xA5) ∧
    decodesTo [0x21, 0x34, 0x12] (.ldHlWord 0x1234) ∧
    decodesTo [0x22] .ldAtHlIncA ∧
    decodesTo [0x23] .incHl ∧
    decodesTo [0x24] .incH ∧
    decodesTo [0x25] .decH ∧
    decodesTo [0x26, 0xA5] (.ldHImm 0xA5) ∧
    decodesTo [0x27] .daa ∧
    decodesTo [0x28, 0xA5] (.jrZOff 0xA5) ∧
    decodesTo [0x29] .addHlHl ∧
    decodesTo [0x2A] .ldAAtHlInc ∧
    decodesTo [0x2B] .decHl ∧
    decodesTo [0x2C] .incL ∧
    decodesTo [0x2D] .decL ∧
    decodesTo [0x2E, 0xA5] (.ldLImm 0xA5) ∧
    decodesTo [0x2F] .cpl :=
  ⟨rfl, rfl, rfl, rfl, rfl, rfl, rfl, rfl, rfl, rfl, rfl, rfl, rfl, rfl, rfl, rfl⟩

theorem test_decode_row_3x :
    decodesTo [0x30, 0xA5] (.jrNcOff 0xA5) ∧
    decodesTo [0x31, 0x34, 0x12] (.ldSpWord 0x1234) ∧
    decodesTo [0x32] .ldAtHlDecA ∧
    decodesTo [0x33] .incSp ∧
    decodesTo [0x34] .incAtHl ∧
    decodesTo [0x35] .decAtHl ∧
    decodesTo [0x36, 0xA5] (.ldAtHlImm 0xA5) ∧
    decodesTo [0x37] .scf ∧
    decodesTo [0x38, 0xA5] (.jrCOff 0xA5) ∧
    decodesTo [0x39] .addHlSp ∧
    decodesTo [0x3A] .ldAAtHlDec ∧
    decodesTo [0x3B] .decSp ∧
    decodesTo [0x3C] .incA ∧
    decodesTo [0x3D] .decA ∧
    decodesTo [0x3E, 0xA5] (.ldAImm 0xA5) ∧
    decodesTo [0x3F] .ccf :=
  ⟨rfl, rfl, rfl, rfl, rfl, rfl, rfl, rfl, rfl, rfl, rfl, rfl, rfl, rfl, rfl, rfl⟩

theorem test_decode_row_4x :
    decodesTo [0x40] .ldBB ∧
    decodesTo [0x41] .ldBC ∧
    decodesTo [0x42] .ldBD ∧
    decodesTo [0x43] .ldBE ∧
    decodesTo [0x44] .ldBH ∧
    decodesTo [0x45] .ldBL ∧
    decodesTo [0x46] .ldBAtHl ∧
    decodesTo [0x47] .ldBA ∧
    decodesTo [0x48] .ldCB ∧
    decodesTo [0x49] .ldCC ∧
    decodesTo [0x4A] .ldCD ∧
    decodesTo [0x4B] .ldCE ∧
    decodesTo [0x4C] .ldCH ∧
    decodesTo [0x4D] .ldCL ∧
    decodesTo [0x4E] .ldCAtHl ∧
    decodesTo [0x4F] .ldCA :=
  ⟨rfl, rfl, rfl, rfl, rfl, rfl, rfl, rfl, rfl, rfl, rfl, rfl, rfl, rfl, rfl, rfl⟩

theorem test_decode_row_5x :
    decodesTo [0x50] .ldDB ∧
    decodesTo [0x51] .ldDC ∧
    decodesTo [0x52] .ldDD ∧
    decodesTo [0x53] .ldDE ∧
    decodesTo [0x54] .ldDH ∧
    decodesTo [0x55] .ldDL ∧
    decodesTo [0x56] .ldDAtHl ∧
    decodesTo [0x57] .ldDA ∧
    decodesTo [0x58] .ldEB ∧
    decodesTo [0x59] .ldEC ∧
    decodesTo [0x5A] .ldED ∧
    decodesTo [0x5B] .ldEE ∧
    decodesTo [0x5C] .ldEH ∧
    decodesTo [0x5D] .ldEL ∧
    decodesTo [0x5E] .ldEAtHl ∧
    decodesTo [0x5F] .ldEA :=
  ⟨rfl, rfl, rfl, rfl, rfl, rfl, rfl, rfl, rfl, rfl, rfl, rfl, rfl, rfl, rfl, rfl⟩

theorem test_decode_row_6x :
    decodesTo [0x60] .ldHB ∧
    decodesTo [0x61] .ldHC ∧
    decodesTo [0x62] .ldHD ∧
    decodesTo [0x63] .ldHE ∧
    decodesTo [0x64] .ldHH ∧
    decodesTo [0x65] .ldHL ∧
    decodesTo [0x66] .ldHAtHl ∧
    decodesTo [0x67] .ldHA ∧
    decodesTo [0x68] .ldLB ∧
    decodesTo [0x69] .ldLC ∧
    decodesTo [0x6A] .ldLD ∧
    decodesTo [0x6B] .ldLE ∧
    decodesTo [0x6C] .ldLH ∧
    decodesTo [0x6D] .ldLL ∧
    decodesTo [0x6E] .ldLAtHl ∧
    decodesTo [0x6F] .ldLA :=
  ⟨rfl, rfl, rfl, rfl, rfl, rfl, rfl, rfl, rfl, rfl, rfl, rfl, rfl, rfl, rfl, rfl⟩

theorem test_decode_row_7x :
    decodesTo [0x70] .ldAtHlB ∧
    decodesTo [0x71] .ldAtHlC ∧
    decodesTo [0x72] .ldAtHlD ∧
    decodesTo [0x73] .ldAtHlE ∧
    decodesTo [0x74] .ldAtHlH ∧
    decodesTo [0x75] .ldAtHlL ∧
    decodesTo [0x76] .halt ∧
    decodesTo [0x77] .ldAtHlA ∧
    decodesTo [0x78] .ldAB ∧
    decodesTo [0x79] .ldAC ∧
    decodesTo [0x7A] .ldAD ∧
    decodesTo [0x7B] .ldAE ∧
    decodesTo [0x7C] .ldAH ∧
    decodesTo [0x7D] .ldAL ∧
    decodesTo [0x7E] .ldAAtHl ∧
    decodesTo [0x7F] .ldAA :=
  ⟨rfl, rfl, rfl, rfl, rfl, rfl, rfl, rfl, rfl, rfl, rfl, rfl, rfl, rfl, rfl, rfl⟩

theorem test_decode_row_8x :
    decodesTo [0x80] .addAB ∧
    decodesTo [0x81] .addAC ∧
    decodesTo [0x82] .addAD ∧
    decodesTo [0x83] .addAE ∧
    decodesTo [0x84] .addAH ∧
    decodesTo [0x85] .addAL ∧
    decodesTo [0x86] .addAAtHl ∧
    decodesTo [0x87] .addAA ∧
    decodesTo [0x88] .adcAB ∧
    decodesTo [0x89] .adcAC ∧
    decodesTo [0x8A] .adcAD ∧
    decodesTo [0x8B] .adcAE ∧
    decodesTo [0x8C] .adcAH ∧
    decodesTo [0x8D] .adcAL ∧
    decodesTo [0x8E] .adcAAtHl ∧
    decodesTo [0x8F] .adcAA :=
  ⟨rfl, rfl, rfl, rfl, rfl, rfl, rfl, rfl, rfl, rfl, rfl, rfl, rfl, rfl, rfl, rfl⟩

theorem test_decode_row_9x :
    decodesTo [0x90] .subAB ∧
    decodesTo [0x91] .subAC ∧
    decodesTo [0x92] .subAD ∧
    decodesTo [0x93] .subAE ∧
    decodesTo [0x94] .subAH ∧
    decodesTo [0x95] .subAL ∧
    decodesTo [0x96] .subAAtHl ∧
    decodesTo [0x97] .subAA ∧
    decodesTo [0x98] .sbcAB ∧
    decodesTo [0x99] .sbcAC ∧
    decodesTo [0x9A] .sbcAD ∧
    decodesTo [0x9B] .sbcAE ∧
    decodesTo [0x9C] .sbcAH ∧
    decodesTo [0x9D] .sbcAL ∧
    decodesTo [0x9E] .sbcAAtHl ∧
    decodesTo [0x9F] .sbcAA :=
  ⟨rfl, rfl, rfl, rfl, rfl, rfl, rfl, rfl, rfl, rfl, rfl, rfl, rfl, rfl, rfl, rfl⟩

theorem test_decode_row_Ax :
    decodesTo [0xA0] .andAB ∧
    decodesTo [0xA1] .andAC ∧
    decodesTo [0xA2] .andAD ∧
    decodesTo [0xA3] .andAE ∧
    decodesTo [0xA4] .andAH ∧
    decodesTo [0xA5] .andAL ∧
    decodesTo [0xA6] .andAAtHl ∧
    decodesTo [0xA7] .andAA ∧
    decodesTo [0xA8] .xorAB ∧
    decodesTo [0xA9] .xorAC ∧
    decodesTo [0xAA] .xorAD ∧
    decodesTo [0xAB] .xorAE ∧
    decodesTo [0xAC] .xorAH ∧
    decodesTo [0xAD] .xorAL ∧
    decodesTo [0xAE] .xorAAtHl ∧
    decodesTo [0xAF] .xorAA :=
  ⟨rfl, rfl, rfl, rfl, rfl, rfl, rfl, rfl, rfl, rfl, rfl, rfl, rfl, rfl, rfl, rfl⟩

theorem test_decode_row_Bx :
    decodesTo [0xB0] .orAB ∧
    decodesTo [0xB1] .orAC ∧
    decodesTo [0xB2] .orAD ∧
    decodesTo [0xB3] .orAE ∧
    decodesTo [0xB4] .orAH ∧
    decodesTo [0xB5] .orAL ∧
    decodesTo [0xB6] .orAAtHl ∧
    decodesTo [0xB7] .orAA ∧
    decodesTo [0xB8] .cpAB ∧
    decodesTo [0xB9] .cpAC ∧
    decodesTo [0xBA] .cpAD ∧
    decodesTo [0xBB] .cpAE ∧
    decodesTo [0xBC] .cpAH ∧
    decodesTo [0xBD] .cpAL ∧
    decodesTo [0xBE] .cpAAtHl ∧
    decodesTo [0xBF] .cpAA :=
  ⟨rfl, rfl, rfl, rfl, rfl, rfl, rfl, rfl, rfl, rfl, rfl, rfl, rfl, rfl, rfl, rfl⟩

theorem test_decode_row_Cx :
    decodesTo [0xC0] .retNz ∧
    decodesTo [0xC1] .popBc ∧
    decodesTo [0xC2, 0x34, 0x12] (.jpNzWord 0x1234) ∧
    decodesTo [0xC3, 0x34, 0x12] (.jpWord 0x1234) ∧
    decodesTo [0xC4, 0x34, 0x12] (.callNzWord 0x1234) ∧
    decodesTo [0xC5] .pushBc ∧
    decodesTo [0xC6, 0xA5] (.addAImm 0xA5) ∧
    decodesTo [0xC7] .rst00 ∧
    decodesTo [0xC8] .retZ ∧
    decodesTo [0xC9] .ret ∧
    decodesTo [0xCA, 0x34, 0x12] (.jpZWord 0x1234) ∧
    decodesTo [0xCC, 0x34, 0x12] (.callZWord 0x1234) ∧
    decodesTo [0xCD, 0x34, 0x12] (.callWord 0x1234) ∧
    decodesTo [0xCE, 0xA5] (.adcAImm 0xA5) ∧
    decodesTo [0xCF] .rst08 :=
  ⟨rfl, rfl, rfl, rfl, rfl, rfl, rfl, rfl, rfl, rfl, rfl, rfl, rfl, rfl, rfl⟩

theorem test_decode_row_Dx :
    decodesTo [0xD0] .retNc ∧
    decodesTo [0xD1] .popDe ∧
    decodesTo [0xD2, 0x34, 0x12] (.jpNcWord 0x1234) ∧
    decodesTo [0xD3] .illegalD3 ∧
    decodesTo [0xD4, 0x34, 0x12] (.callNcWord 0x1234) ∧
    decodesTo [0xD5] .pushDe ∧
    decodesTo [0xD6, 0xA5] (.subAImm 0xA5) ∧
    decodesTo [0xD7] .rst10 ∧
    decodesTo [0xD8] .retC ∧
    decodesTo [0xD9] .reti ∧
    decodesTo [0xDA, 0x34, 0x12] (.jpCWord 0x1234) ∧
    decodesTo [0xDB] .illegalDB ∧
    decodesTo [0xDC, 0x34, 0x12] (.callCWord 0x1234) ∧
    decodesTo [0xDD] .illegalDD ∧
    decodesTo [0xDE, 0xA5] (.sbcAImm 0xA5) ∧
    decodesTo [0xDF] .rst18 :=
  ⟨rfl, rfl, rfl, rfl, rfl, rfl, rfl, rfl, rfl, rfl, rfl, rfl, rfl, rfl, rfl, rfl⟩

theorem test_decode_row_Ex :
    decodesTo [0xE0, 0xA5] (.ldhAtImmA 0xA5) ∧
    decodesTo [0xE1] .popHl ∧
    decodesTo [0xE2] .ldhAtCA ∧
    decodesTo [0xE3] .illegalE3 ∧
    decodesTo [0xE4] .illegalE4 ∧
    decodesTo [0xE5] .pushHl ∧
    decodesTo [0xE6, 0xA5] (.andAImm 0xA5) ∧
    decodesTo [0xE7] .rst20 ∧
    decodesTo [0xE8, 0xA5] (.addSpOff 0xA5) ∧
    decodesTo [0xE9] .jpHl ∧
    decodesTo [0xEA, 0x34, 0x12] (.ldAtWordA 0x1234) ∧
    decodesTo [0xEB] .illegalEB ∧
    decodesTo [0xEC] .illegalEC ∧
    decodesTo [0xED] .illegalED ∧
    decodesTo [0xEE, 0xA5] (.xorAImm 0xA5) ∧
    decodesTo [0xEF] .rst28 :=
  ⟨rfl, rfl, rfl, rfl, rfl, rfl, rfl, rfl, rfl, rfl, rfl, rfl, rfl, rfl, rfl, rfl⟩

theorem test_decode_row_Fx :
    decodesTo [0xF0, 0xA5] (.ldhAAtImm 0xA5) ∧
    decodesTo [0xF1] .popAf ∧
    decodesTo [0xF2] .ldhAAtC ∧
    decodesTo [0xF3] .di ∧
    decodesTo [0xF4] .illegalF4 ∧
    decodesTo [0xF5] .pushAf ∧
    decodesTo [0xF6, 0xA5] (.orAImm 0xA5) ∧
    decodesTo [0xF7] .rst30 ∧
    decodesTo [0xF8, 0xA5] (.ldHlSpOff 0xA5) ∧
    decodesTo [0xF9] .ldSpHl ∧
    decodesTo [0xFA, 0x34, 0x12] (.ldAAtWord 0x1234) ∧
    decodesTo [0xFB] .ei ∧
    decodesTo [0xFC] .illegalFC ∧
    decodesTo [0xFD] .illegalFD ∧
    decodesTo [0xFE, 0xA5] (.cpAImm 0xA5) ∧
    decodesTo [0xFF] .rst38 :=
  ⟨rfl, rfl, rfl, rfl, rfl, rfl, rfl, rfl, rfl, rfl, rfl, rfl, rfl, rfl, rfl, rfl⟩

theorem test_decode_extended_row_0x :
    decodesTo [0xCB, 0x00] .rlcB ∧
    decodesTo [0xCB, 0x01] .rlcC ∧
    decodesTo [0xCB, 0x02] .rlcD ∧
    decodesTo [0xCB, 0x03] .rlcE ∧
    decodesTo [0xCB, 0x04] .rlcH ∧
    decodesTo [0xCB, 0x05] .rlcL ∧
    decodesTo [0xCB, 0x06] .rlcAtHl ∧
    decodesTo [0xCB, 0x07] .rlcA ∧
    decodesTo [0xCB, 0x08] .rrcB ∧
    decodesTo [0xCB, 0x09] .rrcC ∧
    decodesTo [0xCB, 0x0A] .rrcD ∧
    decodesTo [0xCB, 0x0B] .rrcE ∧
    decodesTo [0xCB, 0x0C] .rrcH ∧
    decodesTo [0xCB, 0x0D] .rrcL ∧
    decodesTo [0xCB, 0x0E] .rrcAtHl ∧
    decodesTo [0xCB, 0x0F] .rrcA :=
  ⟨rfl, rfl, rfl, rfl, rfl, rfl, rfl, rfl, rfl, rfl, rfl, rfl, rfl, rfl, rfl, rfl⟩

theorem test_decode_extended_row_1x :
    decodesTo [0xCB, 0x10] .rlB ∧
    decodesTo [0xCB, 0x11] .rlC ∧
    decodesTo [0xCB, 0x12] .rlD ∧
    decodesTo [0xCB, 0x13] .rlE ∧
    decodesTo [0xCB, 0x14] .rlH ∧
    decodesTo [0xCB, 0x15] .rlL ∧
    decodesTo [0xCB, 0x16] .rlAtHl ∧
    decodesTo [0xCB, 0x17] .rlA ∧
    decodesTo [0xCB, 0x18] .rrB ∧
    decodesTo [0xCB, 0x19] .rrC ∧
    decodesTo [0xCB, 0x1A] .rrD ∧
    decodesTo [0xCB, 0x1B] .rrE ∧
    decodesTo [0xCB, 0x1C] .rrH ∧
    decodesTo [0xCB, 0x1D] .rrL ∧
    decodesTo [0xCB, 0x1E] .rrAtHl ∧
    decodesTo [0xCB, 0x1F] .rrA :=
  ⟨rfl, rfl, rfl, rfl, rfl, rfl, rfl, rfl, rfl, rfl, rfl, rfl, rfl, rfl, rfl, rfl⟩

theorem test_decode_extended_row_2x :
    decodesTo [0xCB, 0x20] .slaB ∧
    decodesTo [0xCB, 0x21] .slaC ∧
    decodesTo [0xCB, 0x22] .slaD ∧
    decodesTo [0xCB, 0x23] .slaE ∧
    decodesTo [0xCB, 0x24] .slaH ∧
    decodesTo [0xCB, 0x25] .slaL ∧
    decodesTo [0xCB, 0x26] .slaAtHl ∧
    decodesTo [0xCB, 0x27] .slaA ∧
    decodesTo [0xCB, 0x28] .sraB ∧
    decodesTo [0xCB, 0x29] .sraC ∧
    decodesTo [0xCB, 0x2A] .sraD ∧
    decodesTo [0xCB, 0x2B] .sraE ∧
    decodesTo [0xCB, 0x2C] .sraH ∧
    decodesTo [0xCB, 0x2D] .sraL ∧
    decodesTo [0xCB, 0x2E] .sraAtHl ∧
    decodesTo [0xCB, 0x2F] .sraA :=
  ⟨rfl, rfl, rfl, rfl, rfl, rfl, rfl, rfl, rfl, rfl, rfl, rfl, rfl, rfl, rfl, rfl⟩

theorem test_decode_extended_row_3x :
    decodesTo [0xCB, 0x30] .swapB ∧
    decodesTo [0xCB, 0x31] .swapC ∧
    decodesTo [0xCB, 0x32] .swapD ∧
    decodesTo [0xCB, 0x33] .swapE ∧
    decodesTo [0xCB, 0x34] .swapH ∧
    decodesTo [0xCB, 0x35] .swapL ∧
    decodesTo [0xCB, 0x36] .swapAtHl ∧
    decodesTo [0xCB, 0x37] .swapA ∧
    decodesTo [0xCB, 0x38] .srlB ∧
    decodesTo [0xCB, 0x39] .srlC ∧
    decodesTo [0xCB, 0x3A] .srlD ∧
    decodesTo [0xCB, 0x3B] .srlE ∧
    decodesTo [0xCB, 0x3C] .srlH ∧
    decodesTo [0xCB, 0x3D] .srlL ∧
    decodesTo [0xCB, 0x3E] .srlAtHl ∧
    decodesTo [0xCB, 0x3F] .srlA :=
  ⟨rfl, rfl, rfl, rfl, rfl, rfl, rfl, rfl, rfl, rfl, rfl, rfl, rfl, rfl, rfl, rfl⟩

theorem test_decode_extended_row_4x :
    decodesTo [0xCB, 0x40] .bit0B ∧
    decodesTo [0xCB, 0x41] .bit0C ∧
    decodesTo [0xCB, 0x42] .bit0D ∧
    decodesTo [0xCB, 0x43] .bit0E ∧
    decodesTo [0xCB, 0x44] .bit0H ∧
    decodesTo [0xCB, 0x45] .bit0L ∧
    decodesTo [0xCB, 0x46] .bit0AtHl ∧
    decodesTo [0xCB, 0x47] .bit0A ∧
    decodesTo [0xCB, 0x48] .bit1B ∧
    decodesTo [0xCB, 0x49] .bit1C ∧
    decodesTo [0xCB, 0x4A] .bit1D ∧
    decodesTo [0xCB, 0x4B] .bit1E ∧
    decodesTo [0xCB, 0x4C] .bit1H ∧
    decodesTo [0xCB, 0x4D] .bit1L ∧
    decodesTo [0xCB, 0x4E] .bit1AtHl ∧
    decodesTo [0xCB, 0x4F] .bit1A :=
  ⟨rfl, rfl, rfl, rfl, rfl, rfl, rfl, rfl, rfl, rfl, rfl, rfl, rfl, rfl, rfl, rfl⟩

theorem test_decode_extended_row_5x :
    decodesTo [0xCB, 0x50] .bit2B ∧
    decodesTo [0xCB, 0x51] .bit2C ∧
    decodesTo [0xCB, 0x52] .bit2D ∧
    decodesTo [0xCB, 0x53] .bit2E ∧
    decodesTo [0xCB, 0x54] .bit2H ∧
    decodesTo [0xCB, 0x55] .bit2L ∧
    decodesTo [0xCB, 0x56] .bit2AtHl ∧
    decodesTo [0xCB, 0x57] .bit2A ∧
    decodesTo [0xCB, 0x58] .bit3B ∧
    decodesTo [0xCB, 0x59] .bit3C ∧
    decodesTo [0xCB, 0x5A] .bit3D ∧
    decodesTo [0xCB, 0x5B] .bit3E ∧
    decodesTo [0xCB, 0x5C] .bit3H ∧
    decodesTo [0xCB, 0x5D] .bit3L ∧
    decodesTo [0xCB, 0x5E] .bit3AtHl ∧
    decodesTo [0xCB, 0x5F] .bit3A :=
  ⟨rfl, rfl, rfl, rfl, rfl, rfl, rfl, rfl, rfl, rfl, rfl, rfl, rfl, rfl, rfl, rfl⟩

theorem test_decode_extended_row_6x :
    decodesTo [0xCB, 0x60] .bit4B ∧
    decodesTo [0xCB, 0x61] .bit4C ∧
    decodesTo [0xCB, 0x62] .bit4D ∧
    decodesTo [0xCB, 0x63] .bit4E ∧
    decodesTo [0xCB, 0x64] .bit4H ∧
    decodesTo [0xCB, 0x65] .bit4L ∧
    decodesTo [0xCB, 0x66] .bit4AtHl ∧
    decodesTo [0xCB, 0x67] .bit4A ∧
    decodesTo [0xCB, 0x68] .bit5B ∧
    decodesTo [0xCB, 0x69] .bit5C ∧
    decodesTo [0xCB, 0x6A] .bit5D ∧
    decodesTo [0xCB, 0x6B] .bit5E ∧
    decodesTo [0xCB, 0x6C] .bit5H ∧
    decodesTo [0xCB, 0x6D] .bit5L ∧
    decodesTo [0xCB, 0x6E] .bit5AtHl ∧
    decodesTo [0xCB, 0x6F] .bit5A :=
  ⟨rfl, rfl, rfl, rfl, rfl, rfl, rfl, rfl, rfl, rfl, rfl, rfl, rfl, rfl, rfl, rfl⟩

theorem test_decode_extended_row_7x :
    decodesTo [0xCB, 0x70] .bit6B ∧
    decodesTo [0xCB, 0x71] .bit6C ∧
    decodesTo [0xCB, 0x72] .bit6D ∧
    decodesTo [0xCB, 0x73] .bit6E ∧
    decodesTo [0xCB, 0x74] .bit6H ∧
    decodesTo [0xCB, 0x75] .bit6L ∧
    decodesTo [0xCB, 0x76] .bit6AtHl ∧
    decodesTo [0xCB, 0x77] .bit6A ∧
    decodesTo [0xCB, 0x78] .bit7B ∧
    decodesTo [0xCB, 0x79] .bit7C ∧
    decodesTo [0xCB, 0x7A] .bit7D ∧
    decodesTo [0xCB, 0x7B] .bit7E ∧
    decodesTo [0xCB, 0x7C] .bit7H ∧
    decodesTo [0xCB, 0x7D] .bit7L ∧
    decodesTo [0xCB, 0x7E] .bit7AtHl ∧
    decodesTo [0xCB, 0x7F] .bit7A :=
  ⟨rfl, rfl, rfl, rfl, rfl, rfl, rfl, rfl, rfl, rfl, rfl, rfl, rfl, rfl, rfl, rfl⟩

theorem test_decode_extended_row_8x :
    decodesTo [0xCB, 0x80] .res0B ∧
    decodesTo [0xCB, 0x81] .res0C ∧
    decodesTo [0xCB, 0x82] .res0D ∧
    decodesTo [0xCB, 0x83] .res0E ∧
    decodesTo [0xCB, 0x84] .res0H ∧
    decodesTo [0xCB, 0x85] .res0L ∧
    decodesTo [0xCB, 0x86] .res0AtHl ∧
    decodesTo [0xCB, 0x87] .res0A ∧
    decodesTo [0xCB, 0x88] .res1B ∧
    decodesTo [0xCB, 0x89] .res1C ∧
    decodesTo [0xCB, 0x8A] .res1D ∧
    decodesTo [0xCB, 0x8B] .res1E ∧
    decodesTo [0xCB, 0x8C] .res1H ∧
    decodesTo [0xCB, 0x8D] .res1L ∧
    decodesTo [0xCB, 0x8E] .res1AtHl ∧
    decodesTo [0xCB, 0x8F] .res1A :=
  ⟨rfl, rfl, rfl, rfl, rfl, rfl, rfl, rfl, rfl, rfl, rfl, rfl, rfl, rfl, rfl, rfl⟩

theorem test_decode_extended_row_9x :
    decodesTo [0xCB, 0x90] .res2B ∧
    decodesTo [0xCB, 0x91] .res2C ∧
    decodesTo [0xCB, 0x92] .res2D ∧
    decodesTo [0xCB, 0x93] .res2E ∧
    decodesTo [0xCB, 0x94] .res2H ∧
    decodesTo [0xCB, 0x95] .res2L ∧
    decodesTo [0xCB, 0x96] .res2AtHl ∧
    decodesTo [0xCB, 0x97] .res2A ∧
    decodesTo [0xCB, 0x98] .res3B ∧
    decodesTo [0xCB, 0x99] .res3C ∧
    decodesTo [0xCB, 0x9A] .res3D ∧
    decodesTo [0xCB, 0x9B] .res3E ∧
    decodesTo [0xCB, 0x9C] .res3H ∧
    decodesTo [0xCB, 0x9D] .res3L ∧
    decodesTo [0xCB, 0x9E] .res3AtHl ∧
    decodesTo [0xCB, 0x9F] .res3A :=
  ⟨rfl, rfl, rfl, rfl, rfl, rfl, rfl, rfl, rfl, rfl, rfl, rfl, rfl, rfl, rfl, rfl⟩

theorem test_decode_extended_row_Ax :
    decodesTo [0xCB, 0xA0] .res4B ∧
    decodesTo [0xCB, 0xA1] .res4C ∧
    decodesTo [0xCB, 0xA2] .res4D ∧
    decodesTo [0xCB, 0xA3] .res4E ∧
    decodesTo [0xCB, 0xA4] .res4H ∧
    decodesTo [0xCB, 0xA5] .res4L ∧
    decodesTo [0xCB, 0xA6] .res4AtHl ∧
    decodesTo [0xCB, 0xA7] .res4A ∧
    decodesTo [0xCB, 0xA8] .res5B ∧
    decodesTo [0xCB, 0xA9] .res5C ∧
    decodesTo [0xCB, 0xAA] .res5D ∧
    decodesTo [0xCB, 0xAB] .res5E ∧
    decodesTo [0xCB, 0xAC] .res5H ∧
    decodesTo [0xCB, 0xAD] .res5L ∧
    decodesTo [0xCB, 0xAE] .res5AtHl ∧
    decodesTo [0xCB, 0xAF] .res5A :=
  ⟨rfl, rfl, rfl, rfl, rfl, rfl, rfl, rfl, rfl, rfl, rfl, rfl, rfl, rfl, rfl, rfl⟩

theorem test_decode_extended_row_Bx :
    decodesTo [0xCB, 0xB0] .res6B ∧
    decodesTo [0xCB, 0xB1] .res6C ∧
    decodesTo [0xCB, 0xB2] .res6D ∧
    decodesTo [0xCB, 0xB3] .res6E ∧
    decodesTo [0xCB, 0xB4] .res6H ∧
    decodesTo [0xCB, 0xB5] .res6L ∧
    decodesTo [0xCB, 0xB6] .res6AtHl ∧
    decodesTo [0xCB, 0xB7] .res6A ∧
    decodesTo [0xCB, 0xB8] .res7B ∧
    decodesTo [0xCB, 0xB9] .res7C ∧
    decodesTo [0xCB, 0xBA] .res7D ∧
    decodesTo [0xCB, 0xBB] .res7E ∧
    decodesTo [0xCB, 0xBC] .res7H ∧
    decodesTo [0xCB, 0xBD] .res7L ∧
    decodesTo [0xCB, 0xBE] .res7AtHl ∧
    decodesTo [0xCB, 0xBF] .res7A :=
  ⟨rfl, rfl, rfl, rfl, rfl, rfl, rfl, rfl, rfl, rfl, rfl, rfl, rfl, rfl, rfl, rfl⟩

theorem test_decode_extended_row_Cx :
    decodesTo [0xCB, 0xC0] .set0B ∧
    decodesTo [0xCB, 0xC1] .set0C ∧
    decodesTo [0xCB, 0xC2] .set0D ∧
    decodesTo [0xCB, 0xC3] .set0E ∧
    decodesTo [0xCB, 0xC4] .set0H ∧
    decodesTo [0xCB, 0xC5] .set0L ∧
    decodesTo [0xCB, 0xC6] .set0AtHl ∧
    decodesTo [0xCB, 0xC7] .set0A ∧
    decodesTo [0xCB, 0xC8] .set1B ∧
    decodesTo [0xCB, 0xC9] .set1C ∧
    decodesTo [0xCB, 0xCA] .set1D ∧
    decodesTo [0xCB, 0xCB] .set1E ∧
    decodesTo [0xCB, 0xCC] .set1H ∧
    decodesTo [0xCB, 0xCD] .set1L ∧
    decodesTo [0xCB, 0xCE] .set1AtHl ∧
    decodesTo [0xCB, 0xCF] .set1A :=
  ⟨rfl, rfl, rfl, rfl, rfl, rfl, rfl, rfl, rfl, rfl, rfl, rfl, rfl, rfl, rfl, rfl⟩

theorem test_decode_extended_row_Dx :
    decodesTo [0xCB, 0xD0] .set2B ∧
    decodesTo [0xCB, 0xD1] .set2C ∧
    decodesTo [0xCB, 0xD2] .set2D ∧
    decodesTo [0xCB, 0xD3] .set2E ∧
    decodesTo [0xCB, 0xD4] .set2H ∧
    decodesTo [0xCB, 0xD5] .set2L ∧
    decodesTo [0xCB, 0xD6] .set2AtHl ∧
    decodesTo [0xCB, 0xD7] .set2A ∧
    decodesTo [0xCB, 0xD8] .set3B ∧
    decodesTo [0xCB, 0xD9] .set3C ∧
    decodesTo [0xCB, 0xDA] .set3D ∧
    decodesTo [0xCB, 0xDB] .set3E ∧
    decodesTo [0xCB, 0xDC] .set3H ∧
    decodesTo [0xCB, 0xDD] .set3L ∧
    decodesTo [0xCB, 0xDE] .set3AtHl ∧
    decodesTo [0xCB, 0xDF] .set3A :=
  ⟨rfl, rfl, rfl, rfl, rfl, rfl, rfl, rfl, rfl, rfl, rfl, rfl, rfl, rfl, rfl, rfl⟩

theorem test_decode_extended_row_Ex :
    decodesTo [0xCB, 0xE0] .set4B ∧
    decodesTo [0xCB, 0xE1] .set4C ∧
    decodesTo [0xCB, 0xE2] .set4D ∧
    decodesTo [0xCB, 0xE3] .set4E ∧
    decodesTo [0xCB, 0xE4] .set4H ∧
    decodesTo [0xCB, 0xE5] .set4L ∧
    decodesTo [0xCB, 0xE6] .set4AtHl ∧
    decodesTo [0xCB, 0xE7] .set4A ∧
    decodesTo [0xCB, 0xE8] .set5B ∧
    decodesTo [0xCB, 0xE9] .set5C ∧
    decodesTo [0xCB, 0xEA] .set5D ∧
    decodesTo [0xCB, 0xEB] .set5E ∧
    decodesTo [0xCB, 0xEC] .set5H ∧
    decodesTo [0xCB, 0xED] .set5L ∧
    decodesTo [0xCB, 0xEE] .set5AtHl ∧
    decodesTo [0xCB, 0xEF] .set5A :=
  ⟨rfl, rfl, rfl, rfl, rfl, rfl, rfl, rfl, rfl, rfl, rfl, rfl, rfl, rfl, rfl, rfl⟩

theorem test_decode_extended_row_Fx :
    decodesTo [0xCB, 0xF0] .set6B ∧
    decodesTo [0xCB, 0xF1] .set6C ∧
    decodesTo [0xCB, 0xF2] .set6D ∧
    decodesTo [0xCB, 0xF3] .set6E ∧
    decodesTo [0xCB, 0xF4] .set6H ∧
    decodesTo [0xCB, 0xF5] .set6L ∧
    decodesTo [0xCB, 0xF6] .set6AtHl ∧
    decodesTo [0xCB, 0xF7] .set6A ∧
    decodesTo [0xCB, 0xF8] .set7B ∧
    decodesTo [0xCB, 0xF9] .set7C ∧
    decodesTo [0xCB, 0xFA] .set7D ∧
    decodesTo [0xCB, 0xFB] .set7E ∧
    decodesTo [0xCB, 0xFC] .set7H ∧
    decodesTo [0xCB, 0xFD] .set7L ∧
    decodesTo [0xCB, 0xFE] .set7AtHl ∧
    decodesTo [0xCB, 0xFF] .set7A :=
  ⟨rfl, rfl, rfl, rfl, rfl, rfl, rfl, rfl, rfl, rfl, rfl, rfl, rfl, rfl, rfl, rfl⟩

/-- What is no instruction is refused by name; STOP needs no second byte (log entry 18). -/
theorem test_decode_refuses : decode [] = .error .noBytes ∧ decode [0x3E] = .error .truncated ∧
    decode [0xCD, 0x34] = .error .truncated ∧ decode [0xCB] = .error .truncated ∧ decode [0x10] = .ok (.stop, []) :=
  ⟨rfl, rfl, rfl, rfl, rfl⟩

/-- A table word is numbered as R106 numbers it (log entry 16). -/
theorem test_table_words : decodeTableWord 8 0x41 = some .ldBC ∧ decodeTableWord 8 0x3E = some (.ldAImm 0) ∧
    decodeTableWord 8 0xC3 = some (.jpWord 0) ∧ decodeTableWord 16 0xCB37 = some .swapA ∧
    decodeTableWord 16 0xCBCB = some .set1E := ⟨rfl, rfl, rfl, rfl, rfl⟩

/-! ### One step, by the vectors of 95_test_vectors.md -/

/-- The bytes from `k` on. -/
def withBytes (s : State) (k : Word) : List Byte → State
  | [] => s
  | v :: rest => withBytes (s.memWrite k v) (k + 1) rest

/-- The state one step after `s` with the bytes at PC. -/
def after (s : State) (bytes : List Byte) : Option State :=
  match step (withBytes s s.pc bytes) with
  | .next t => some t
  | _ => none

theorem test_withFetchWord : (State.reset.withFetchWord 16 0xCB37).fetchInstr = .swapA ∧
    (State.reset.withFetchWord 8 0x76).fetchInstr = .halt := by decide

/-- LD B,C (V1.1). -/
theorem test_V1_1 : (after State.reset [0x41]).map (fun t => (t.b, t.pc, t.numCycles)) =
    some (0x13, 0x0101, 4) := by decide
/-- LD B,n (V1.3). -/
theorem test_V1_3 : (after State.reset [0x06, 0x7F]).map (fun t => (t.b, t.pc, t.numCycles)) =
    some (0x7F, 0x0102, 8) := by decide
/-- LD A,(HL) (V1.4). -/
theorem test_V1_4 : (after (State.memWrite { State.reset with h := 0xC0, l := 0x00 } 0xC000 0x5A) [0x7E]).map (fun t => (t.a, t.pc, t.numCycles)) =
    some (0x5A, 0x0101, 8) := by decide
/-- LD (HL),B (V1.5). -/
theorem test_V1_5 : (after { State.reset with h := 0xC0, l := 0x00, b := 0x42 } [0x70]).map (fun t => (t.pc, t.memRead 0xC000, t.numCycles)) =
    some (0x0101, 0x42, 8) := by decide
/-- LD (HL),n (V1.6). -/
theorem test_V1_6 : (after { State.reset with h := 0xC0, l := 0x00 } [0x36, 0x99]).map (fun t => (t.pc, t.memRead 0xC000, t.numCycles)) =
    some (0x0102, 0x99, 12) := by decide
/-- LD A,(BC) (V1.8). -/
theorem test_V1_8 : (after (State.memWrite { State.reset with b := 0xC0, c := 0x01 } 0xC001 0x33) [0x0A]).map (fun t => (t.a, t.pc, t.numCycles)) =
    some (0x33, 0x0101, 8) := by decide
/-- LD (DE),A (V1.9). -/
theorem test_V1_9 : (after { State.reset with d := 0xC0, e := 0x02, a := 0x44 } [0x12]).map (fun t => (t.pc, t.memRead 0xC002, t.numCycles)) =
    some (0x0101, 0x44, 8) := by decide
/-- LD A,(nn) (V1.10). -/
theorem test_V1_10 : (after (State.memWrite (State.memWrite State.reset 0x1234 0x5A) 0x3412 0xEE) [0xFA, 0x34, 0x12]).map (fun t => (t.a, t.pc, t.numCycles)) =
    some (0x5A, 0x0103, 16) := by decide
/-- LD (nn),A (V1.11). -/
theorem test_V1_11 : (after { State.reset with a := 0x77 } [0xEA, 0x00, 0xC0]).map (fun t => (t.pc, t.memRead 0xC000, t.memRead 0x00C0, t.numCycles)) =
    some (0x0103, 0x77, 0x00, 16) := by decide
/-- LDH (C),A (V1.13). -/
theorem test_V1_13 : (after { State.reset with c := 0x47, a := 0xE4 } [0xE2]).map (fun t => (t.pc, t.memRead 0xFF47, t.numCycles)) =
    some (0x0101, 0xE4, 8) := by decide
/-- LDH A,(n) (V1.14). -/
theorem test_V1_14 : (after (State.memWrite State.reset 0xFF0F 0xE1) [0xF0, 0x0F]).map (fun t => (t.a, t.pc, t.numCycles)) =
    some (0xE1, 0x0102, 12) := by decide
/-- LD A,(HL-) (V1.16). -/
theorem test_V1_16 : (after (State.memWrite { State.reset with h := 0x00, l := 0x00 } 0x0000 0x77) [0x3A]).map (fun t => (t.a, t.h, t.l, t.pc, t.numCycles)) =
    some (0x77, 0xFF, 0xFF, 0x0101, 8) := by decide
/-- LD (HL-),A (V1.17). -/
theorem test_V1_17 : (after { State.reset with h := 0xC0, l := 0x00, a := 0x08 } [0x32]).map (fun t => (t.h, t.l, t.pc, t.memRead 0xC000, t.numCycles)) =
    some (0xBF, 0xFF, 0x0101, 0x08, 8) := by decide
/-- LD A,(HL+) (V1.18). -/
theorem test_V1_18 : (after (State.memWrite { State.reset with h := 0xFF, l := 0xFF } 0xFFFF 0x15) [0x2A]).map (fun t => (t.a, t.h, t.l, t.pc, t.numCycles)) =
    some (0x15, 0x00, 0x00, 0x0101, 8) := by decide
/-- LD (HL+),A (V1.19). -/
theorem test_V1_19 : (after { State.reset with h := 0xC0, l := 0xFF, a := 0x09 } [0x22]).map (fun t => (t.h, t.l, t.pc, t.memRead 0xC0FF, t.numCycles)) =
    some (0xC1, 0x00, 0x0101, 0x09, 8) := by decide
/-- LD BC,nn (V2.1). -/
theorem test_V2_1 : (after State.reset [0x01, 0x34, 0x12]).map (fun t => (t.b, t.c, t.pc, t.numCycles)) =
    some (0x12, 0x34, 0x0103, 12) := by decide
/-- LD (nn),SP (V2.3). -/
theorem test_V2_3 : (after { State.reset with sp := 0xFFF8 } [0x08, 0x00, 0xC0]).map (fun t => (t.pc, t.memRead 0xC000, t.memRead 0xC001, t.numCycles)) =
    some (0x0103, 0xF8, 0xFF, 20) := by decide
/-- LD SP,HL (V2.4). -/
theorem test_V2_4 : (after { State.reset with h := 0xCF, l := 0xFF } [0xF9]).map (fun t => (t.sp, t.pc, t.numCycles)) =
    some (0xCFFF, 0x0101, 8) := by decide
/-- PUSH AF (V2.6). -/
theorem test_V2_6 : (after { State.reset with sp := 0x0001, pc := 0x0200 } [0xF5]).map (fun t => (t.sp, t.pc, t.memRead 0x0000, t.memRead 0xFFFF, t.numCycles)) =
    some (0xFFFF, 0x0201, 0x01, 0xB0, 16) := by decide
/-- POP AF (V2.7). -/
theorem test_V2_7 : (after (State.memWrite (State.memWrite { State.reset with sp := 0xC000 } 0xC000 0xFF) 0xC001 0x12) [0xF1]).map (fun t => (t.a, t.f, t.sp, t.pc, t.numCycles)) =
    some (0x12, 0xF0, 0xC002, 0x0101, 12) := by decide
/-- POP HL (V2.8). -/
theorem test_V2_8 : (after (State.memWrite (State.memWrite { State.reset with sp := 0xFFFF } 0xFFFF 0xCD) 0x0000 0xAB) [0xE1]).map (fun t => (t.h, t.l, t.sp, t.pc, t.numCycles)) =
    some (0xAB, 0xCD, 0x0001, 0x0101, 12) := by decide
/-- LD HL,SP+e (V2.12). -/
theorem test_V2_12 : (after { State.reset with sp := 0x0001 } [0xF8, 0xFF]).map (fun t => (t.f, t.h, t.l, t.pc, t.numCycles)) =
    some (0x30, 0x00, 0x00, 0x0102, 12) := by decide
/-- ADC A,n (V3.8). -/
theorem test_V3_8 : (after { State.reset with a := 0xFF, f := 0x10 } [0xCE, 0x00]).map (fun t => (t.a, t.f, t.pc, t.numCycles)) =
    some (0x00, 0xB0, 0x0102, 8) := by decide
/-- ADC A,n (V3.12). -/
theorem test_V3_12 : (after { State.reset with a := 0xFF, f := 0x10 } [0xCE, 0xFF]).map (fun t => (t.a, t.f, t.pc, t.numCycles)) =
    some (0xFF, 0x30, 0x0102, 8) := by decide
/-- SBC A,n (V3.22). -/
theorem test_V3_22 : (after { State.reset with a := 0x3B, f := 0x10 } [0xDE, 0x4F]).map (fun t => (t.a, t.f, t.pc, t.numCycles)) =
    some (0xEB, 0x70, 0x0102, 8) := by decide
/-- CP A,n (V3.28). -/
theorem test_V3_28 : (after { State.reset with a := 0x00, f := 0x10 } [0xFE, 0xFF]).map (fun t => (t.a, t.f, t.pc, t.numCycles)) =
    some (0x00, 0x70, 0x0102, 8) := by decide
/-- AND A,n (V3.30). -/
theorem test_V3_30 : (after { State.reset with a := 0x5A, f := 0x10 } [0xE6, 0xA5]).map (fun t => (t.a, t.f, t.pc, t.numCycles)) =
    some (0x00, 0xA0, 0x0102, 8) := by decide
/-- XOR A,n (V3.31). -/
theorem test_V3_31 : (after { State.reset with a := 0xFF, f := 0x10 } [0xEE, 0x0F]).map (fun t => (t.a, t.f, t.pc, t.numCycles)) =
    some (0xF0, 0x00, 0x0102, 8) := by decide
/-- OR A,n (V3.33). -/
theorem test_V3_33 : (after { State.reset with a := 0x5A, f := 0x10 } [0xF6, 0x0F]).map (fun t => (t.a, t.f, t.pc, t.numCycles)) =
    some (0x5F, 0x00, 0x0102, 8) := by decide
/-- ADD A,A (V4.2). -/
theorem test_V4_2 : (after { State.reset with a := 0x88, f := 0x00 } [0x87]).map (fun t => (t.a, t.f, t.pc, t.numCycles)) =
    some (0x10, 0x30, 0x0101, 4) := by decide
/-- SUB A,A (V4.4). -/
theorem test_V4_4 : (after { State.reset with a := 0x5A, f := 0x10 } [0x97]).map (fun t => (t.a, t.f, t.pc, t.numCycles)) =
    some (0x00, 0xC0, 0x0101, 4) := by decide
/-- SBC A,A (V4.5). -/
theorem test_V4_5 : (after { State.reset with a := 0x5A, f := 0x10 } [0x9F]).map (fun t => (t.a, t.f, t.pc, t.numCycles)) =
    some (0xFF, 0x70, 0x0101, 4) := by decide
/-- INC B (V4.10). -/
theorem test_V4_10 : (after { State.reset with b := 0xFF, f := 0x10 } [0x04]).map (fun t => (t.f, t.b, t.pc, t.numCycles)) =
    some (0xB0, 0x00, 0x0101, 4) := by decide
/-- INC (HL) (V4.12). -/
theorem test_V4_12 : (after (State.memWrite { State.reset with h := 0xC0, l := 0x00, f := 0xC0 } 0xC000 0x50) [0x34]).map (fun t => (t.f, t.pc, t.memRead 0xC000, t.numCycles)) =
    some (0x00, 0x0101, 0x51, 12) := by decide
/-- DEC L (V4.14). -/
theorem test_V4_14 : (after { State.reset with l := 0x00, f := 0x00 } [0x2D]).map (fun t => (t.f, t.l, t.pc, t.numCycles)) =
    some (0x60, 0xFF, 0x0101, 4) := by decide
/-- DEC (HL) (V4.16). -/
theorem test_V4_16 : (after (State.memWrite { State.reset with h := 0xC0, l := 0x00, f := 0x00 } 0xC000 0x00) [0x35]).map (fun t => (t.f, t.pc, t.memRead 0xC000, t.numCycles)) =
    some (0x60, 0x0101, 0xFF, 12) := by decide
/-- DAA (V4.18). -/
theorem test_V4_18 : (after { State.reset with a := 0x9A, f := 0x00 } [0x27]).map (fun t => (t.a, t.f, t.pc, t.numCycles)) =
    some (0x00, 0x90, 0x0101, 4) := by decide
/-- DAA (V4.22). -/
theorem test_V4_22 : (after { State.reset with a := 0x4B, f := 0x60 } [0x27]).map (fun t => (t.a, t.f, t.pc, t.numCycles)) =
    some (0x45, 0x40, 0x0101, 4) := by decide
/-- CPL (V4.26). -/
theorem test_V4_26 : (after { State.reset with a := 0x35, f := 0x90 } [0x2F]).map (fun t => (t.a, t.f, t.pc, t.numCycles)) =
    some (0xCA, 0xF0, 0x0101, 4) := by decide
/-- CCF (V4.28). -/
theorem test_V4_28 : (after { State.reset with f := 0xF0 } [0x3F]).map (fun t => (t.f, t.pc, t.numCycles)) =
    some (0x80, 0x0101, 4) := by decide
/-- ADD HL,BC (V5.1). -/
theorem test_V5_1 : (after { State.reset with h := 0x8A, l := 0x23, b := 0x06, c := 0x05, f := 0x80 } [0x09]).map (fun t => (t.f, t.h, t.l, t.pc, t.numCycles)) =
    some (0xA0, 0x90, 0x28, 0x0101, 8) := by decide
/-- ADD HL,SP (V5.4). -/
theorem test_V5_4 : (after { State.reset with h := 0x0F, l := 0xFF, sp := 0x0001, f := 0xF0 } [0x39]).map (fun t => (t.f, t.h, t.l, t.pc, t.numCycles)) =
    some (0xA0, 0x10, 0x00, 0x0101, 8) := by decide
/-- INC BC (V5.6). -/
theorem test_V5_6 : (after { State.reset with b := 0xFF, c := 0xFF, f := 0x00 } [0x03]).map (fun t => (t.f, t.b, t.c, t.pc, t.numCycles)) =
    some (0x00, 0x00, 0x00, 0x0101, 8) := by decide
/-- DEC SP (V5.8). -/
theorem test_V5_8 : (after { State.reset with sp := 0x0000 } [0x3B]).map (fun t => (t.f, t.sp, t.pc, t.numCycles)) =
    some (0xB0, 0xFFFF, 0x0101, 8) := by decide
/-- ADD SP,e (V5.14). -/
theorem test_V5_14 : (after { State.reset with sp := 0x0080, f := 0x00 } [0xE8, 0x80]).map (fun t => (t.f, t.sp, t.pc, t.numCycles)) =
    some (0x10, 0x0000, 0x0102, 16) := by decide
/-- RLCA (V6.1). -/
theorem test_V6_1 : (after { State.reset with a := 0x85, f := 0x00 } [0x07]).map (fun t => (t.a, t.f, t.pc, t.numCycles)) =
    some (0x0B, 0x10, 0x0101, 4) := by decide
/-- RRCA (V6.3). -/
theorem test_V6_3 : (after { State.reset with a := 0x3B, f := 0x00 } [0x0F]).map (fun t => (t.a, t.f, t.pc, t.numCycles)) =
    some (0x9D, 0x10, 0x0101, 4) := by decide
/-- RLA (V6.4). -/
theorem test_V6_4 : (after { State.reset with a := 0x95, f := 0x10 } [0x17]).map (fun t => (t.a, t.f, t.pc, t.numCycles)) =
    some (0x2B, 0x10, 0x0101, 4) := by decide
/-- RRA (V6.7). -/
theorem test_V6_7 : (after { State.reset with a := 0x00, f := 0x10 } [0x1F]).map (fun t => (t.a, t.f, t.pc, t.numCycles)) =
    some (0x80, 0x00, 0x0101, 4) := by decide
/-- RLC (HL) (V6.10). -/
theorem test_V6_10 : (after (State.memWrite { State.reset with h := 0xC0, l := 0x00, f := 0x00 } 0xC000 0x80) [0xCB, 0x06]).map (fun t => (t.f, t.pc, t.memRead 0xC000, t.numCycles)) =
    some (0x10, 0x0102, 0x01, 16) := by decide
/-- RRC C (V6.11). -/
theorem test_V6_11 : (after { State.reset with c := 0x01, f := 0x00 } [0xCB, 0x09]).map (fun t => (t.f, t.c, t.pc, t.numCycles)) =
    some (0x10, 0x80, 0x0102, 8) := by decide
/-- RL A (V6.13). -/
theorem test_V6_13 : (after { State.reset with a := 0x00, f := 0x10 } [0xCB, 0x17]).map (fun t => (t.a, t.f, t.pc, t.numCycles)) =
    some (0x01, 0x00, 0x0102, 8) := by decide
/-- RR A (V6.15). -/
theorem test_V6_15 : (after { State.reset with a := 0x00, f := 0x10 } [0xCB, 0x1F]).map (fun t => (t.a, t.f, t.pc, t.numCycles)) =
    some (0x80, 0x00, 0x0102, 8) := by decide
/-- SLA L (V6.17). -/
theorem test_V6_17 : (after { State.reset with l := 0xFF, f := 0x10 } [0xCB, 0x25]).map (fun t => (t.f, t.l, t.pc, t.numCycles)) =
    some (0x10, 0xFE, 0x0102, 8) := by decide
/-- SRA A (V6.18). -/
theorem test_V6_18 : (after { State.reset with a := 0x8A, f := 0x10 } [0xCB, 0x2F]).map (fun t => (t.a, t.f, t.pc, t.numCycles)) =
    some (0xC5, 0x00, 0x0102, 8) := by decide
/-- SWAP A (V6.20). -/
theorem test_V6_20 : (after { State.reset with a := 0xF1, f := 0xF0 } [0xCB, 0x37]).map (fun t => (t.a, t.f, t.pc, t.numCycles)) =
    some (0x1F, 0x00, 0x0102, 8) := by decide
/-- SRL A (V6.22). -/
theorem test_V6_22 : (after { State.reset with a := 0x01, f := 0x00 } [0xCB, 0x3F]).map (fun t => (t.a, t.f, t.pc, t.numCycles)) =
    some (0x00, 0x90, 0x0102, 8) := by decide
/-- BIT 4,L (V6.25). -/
theorem test_V6_25 : (after { State.reset with l := 0xEF, f := 0x40 } [0xCB, 0x65]).map (fun t => (t.f, t.pc, t.numCycles)) =
    some (0xA0, 0x0102, 8) := by decide
/-- BIT 0,(HL) (V6.26). -/
theorem test_V6_26 : (after (State.memWrite { State.reset with h := 0xC0, l := 0x00, f := 0x00 } 0xC000 0xFE) [0xCB, 0x46]).map (fun t => (t.f, t.pc, t.numCycles)) =
    some (0xA0, 0x0102, 12) := by decide
/-- RES 7,(HL) (V6.28). -/
theorem test_V6_28 : (after (State.memWrite { State.reset with h := 0xC0, l := 0x00 } 0xC000 0xFF) [0xCB, 0xBE]).map (fun t => (t.f, t.pc, t.memRead 0xC000, t.numCycles)) =
    some (0xB0, 0x0102, 0x7F, 16) := by decide
/-- SET 1,E (V6.31). -/
theorem test_V6_31 : (after { State.reset with e := 0x00 } [0xCB, 0xCB]).map (fun t => (t.f, t.e, t.pc, t.numCycles)) =
    some (0xB0, 0x02, 0x0102, 8) := by decide
/-- JP nn (V7.1). -/
theorem test_V7_1 : (after State.reset [0xC3, 0x34, 0x12]).map (fun t => (t.pc, t.numCycles)) =
    some (0x1234, 16) := by decide
/-- JP NZ,nn (V7.2). -/
theorem test_V7_2 : (after State.reset [0xC2, 0x34, 0x12]).map (fun t => (t.pc, t.numCycles)) =
    some (0x0103, 12) := by decide
/-- JP NZ,nn (V7.3). -/
theorem test_V7_3 : (after { State.reset with f := 0x00 } [0xC2, 0x34, 0x12]).map (fun t => (t.pc, t.numCycles)) =
    some (0x1234, 16) := by decide
/-- JP HL (V7.5). -/
theorem test_V7_5 : (after { State.reset with h := 0xC1, l := 0x23 } [0xE9]).map (fun t => (t.pc, t.numCycles)) =
    some (0xC123, 4) := by decide
/-- JR e (V7.8). -/
theorem test_V7_8 : (after State.reset [0x18, 0x80]).map (fun t => (t.pc, t.numCycles)) =
    some (0x0082, 12) := by decide
/-- JR e (V7.9). -/
theorem test_V7_9 : (after { State.reset with pc := 0xFFF8 } [0x18, 0x10]).map (fun t => (t.pc, t.numCycles)) =
    some (0x000A, 12) := by decide
/-- JR NZ,e (V7.11). -/
theorem test_V7_11 : (after State.reset [0x20, 0x05]).map (fun t => (t.pc, t.numCycles)) =
    some (0x0102, 8) := by decide
/-- JR NC,e (V7.12). -/
theorem test_V7_12 : (after { State.reset with f := 0x00 } [0x30, 0xFB]).map (fun t => (t.pc, t.numCycles)) =
    some (0x00FD, 12) := by decide
/-- CALL nn (V7.13). -/
theorem test_V7_13 : (after State.reset [0xCD, 0x34, 0x12]).map (fun t => (t.sp, t.pc, t.memRead 0xFFFD, t.memRead 0xFFFC, t.numCycles)) =
    some (0xFFFC, 0x1234, 0x01, 0x03, 24) := by decide
/-- CALL NZ,nn (V7.14). -/
theorem test_V7_14 : (after State.reset [0xC4, 0x34, 0x12]).map (fun t => (t.pc, t.memRead 0xFFFD, t.memRead 0xFFFC, t.numCycles)) =
    some (0x0103, 0x00, 0x00, 12) := by decide
/-- RET (V7.16). -/
theorem test_V7_16 : (after (State.memWrite (State.memWrite { State.reset with sp := 0xFFFC, pc := 0x1234 } 0xFFFC 0x03) 0xFFFD 0x01) [0xC9]).map (fun t => (t.sp, t.pc, t.numCycles)) =
    some (0xFFFE, 0x0103, 16) := by decide
/-- RET NC (V7.17). -/
theorem test_V7_17 : (after (State.memWrite (State.memWrite { State.reset with sp := 0xFFFC } 0xFFFC 0x03) 0xFFFD 0x01) [0xD0]).map (fun t => (t.pc, t.numCycles)) =
    some (0x0101, 8) := by decide
/-- RET C (V7.18). -/
theorem test_V7_18 : (after (State.memWrite (State.memWrite { State.reset with sp := 0xFFFC } 0xFFFC 0x03) 0xFFFD 0x01) [0xD8]).map (fun t => (t.sp, t.pc, t.numCycles)) =
    some (0xFFFE, 0x0103, 20) := by decide
/-- RETI (V7.19). -/
theorem test_V7_19 : (after (State.memWrite (State.memWrite { State.reset with sp := 0xFFFC, pc := 0x0050 } 0xFFFC 0x03) 0xFFFD 0x01) [0xD9]).map (fun t => (t.sp, t.pc, t.ime, t.numCycles)) =
    some (0xFFFE, 0x0103, true, 16) := by decide
/-- RST 0x00 (V7.21). -/
theorem test_V7_21 : (after { State.reset with pc := 0xFFFF, sp := 0xD000 } [0xC7]).map (fun t => (t.sp, t.pc, t.memRead 0xCFFF, t.memRead 0xCFFE, t.numCycles)) =
    some (0xCFFE, 0x0000, 0x00, 0x00, 16) := by decide
/-- NOP (V8.1). -/
theorem test_V8_1 : (after State.reset [0x00]).map (fun t => (t.pc, t.numCycles)) =
    some (0x0101, 4) := by decide
/-- HALT (V8.2). -/
theorem test_V8_2 : (after (State.memWrite State.reset 0xFFFF 0x04) [0x76]).map (fun t => (t.pc, t.halted, t.numCycles)) =
    some (0x0100, true, 4) := by decide
/-- HALT (V8.4). -/
theorem test_V8_4 : (after (State.memWrite (State.memWrite { State.reset with ime := true } 0xFFFF 0x04) 0xFF0F 0x04) [0x76]).map (fun t => (t.sp, t.pc, t.ime, t.memRead 0xFF0F, t.memRead 0xFFFD, t.numCycles)) =
    some (0xFFFC, 0x0050, false, 0x00, 0x01, 4) := by decide
/-- DI (V8.5). -/
theorem test_V8_5 : (after (State.memWrite (State.memWrite { State.reset with ime := true } 0xFFFF 0x01) 0xFF0F 0x01) [0xF3]).map (fun t => (t.pc, t.ime, t.memRead 0xFF0F, t.numCycles)) =
    some (0x0101, false, 0x01, 4) := by decide
/-- EI (V8.6). -/
theorem test_V8_6 : (after (State.memWrite (State.memWrite State.reset 0xFFFF 0x01) 0xFF0F 0x01) [0xFB]).map (fun t => (t.sp, t.pc, t.ime, t.memRead 0xFF0F, t.memRead 0xFFFD, t.numCycles)) =
    some (0xFFFC, 0x0040, false, 0x00, 0x01, 4) := by decide
/-- STOP (V8.8). -/
theorem test_V8_8 : (after State.reset [0x10, 0x00]).map (fun t => (t.pc, t.fault)) =
    some (0x0100, some (.stop 0x0100)) := by decide
/-- (unrecognized 0xFC) (V8.10). -/
theorem test_V8_10 : (after { State.reset with pc := 0xC000 } [0xFC]).map (fun t => (t.pc, t.fault)) =
    some (0xC000, some (.illegalOpcode 0xC000 0xFC)) := by decide
/-- NOP, then servicing (V9.2). -/
theorem test_V9_2 : (after (State.memWrite (State.memWrite { State.reset with ime := true } 0xFFFF 0x1F) 0xFF0F 0x14) [0x00]).map (fun t => (t.pc, t.sp, t.ime, t.memRead 0xFF0F, t.memRead 0xFFFD, t.numCycles)) =
    some (0x0050, 0xFFFC, false, 0x10, 0x01, 4) := by decide
/-- NOP, then servicing (V9.4). -/
theorem test_V9_4 : (after (State.memWrite (State.memWrite { State.reset with ime := true } 0xFFFF 0xFF) 0xFF0F 0xE0) [0x00]).map (fun t => (t.pc, t.sp, t.ime, t.memRead 0xFF0F, t.memRead 0xFFFD, t.numCycles)) =
    some (0x0101, 0xFFFE, true, 0xE0, 0x00, 4) := by decide
/-- NOP, then servicing (V9.6). -/
theorem test_V9_6 : (after (State.memWrite (State.memWrite { State.reset with ime := true, sp := 0x0001 } 0xFFFF 0x10) 0xFF0F 0x10) [0x00]).map (fun t => (t.pc, t.sp, t.ime, t.memRead 0xFF0F, t.memRead 0xFFFD, t.numCycles)) =
    some (0x0060, 0xFFFF, false, 0x00, 0x00, 4) := by decide

/-! ### TIMER, PPU and the renderer, by hand calculation from 60_exceptions.md -/

/-- DIV's accumulator reaches 256 and the countdown 0 in one step: DIV steps, TIMA reloads from TMA, source 2 is requested
(R340 to R342). -/
theorem test_timer_tick :
    (after (withBytes { State.reset with divAcc := 252, countdown := 4 } 0xFF04 [0x00, 0xFF, 0x23, 0x05]) [0x00]).map
      (fun t => (t.memRead 0xFF04, t.memRead 0xFF05, t.memRead 0xFF0F, t.divAcc, t.countdown)) =
    some (0x01, 0x23, 0x04, 0, 16) := by decide

/-- The overshoot of the line counter is carried into the next line; line 144 is V-blank and requests source 0
(R351 to R354). -/
theorem test_vblank_line :
    (after (State.memWrite { State.reset with lineCounter := 3, mode := .hblank } 0xFF44 143) [0x00]).map
      (fun t => (t.lineCounter, t.memRead 0xFF44, t.mode, t.memRead 0xFF41, t.memRead 0xFF0F)) =
    some (455, 144, .vblank, 0x01, 0x01) := by decide

/-- A state with tile 1 of colour index 1 and tile 2 of colour index 2 in the top row of the map, and BGP the identity: the
common setup of V12. -/
def tiles : State :=
  (withBytes (withBytes (withBytes State.reset 0x8010 [0xFF, 0x00]) 0x8020 [0x00, 0xFF]) 0x9800 [0x01, 0x02]).memWrite
    0xFF47 0xE4

/-- Scrolling by SCX (V12.3, V12.4). -/
theorem test_background_scroll :
    ((tiles.memWrite 0xFF43 0x04).bgPixel 0 3, (tiles.memWrite 0xFF43 0x04).bgPixel 0 4,
      (tiles.memWrite 0xFF43 0xFC).bgPixel 0 4, (tiles.memWrite 0xFF43 0xFC).bgPixel 0 12) = (1, 2, 1, 2) := by decide

/-- The window at the right edge (V12.10). -/
theorem test_window_edge :
    let s := withBytes (tiles.memWrite 0xFF40 0xB1) 0xFF4A [0x8F, 0xA6]
    (s.winCell 143 158, s.winCell 143 159, s.winCell 142 159) = (none, some 1, none) := by decide

/-- Two sprites overlap: the lower slot wins (V12.20). -/
theorem test_sprite_overlap :
    let s := withBytes (withBytes (tiles.memWrite 0xFF40 0x93) 0xFE00 [0x10, 0x18, 0x01, 0x00, 0x10, 0x1C, 0x02, 0x00])
      0xFF48 [0xE4]
    (s.topSprite 20 0, s.topSprite 24 0, s.topSprite 28 0) = (some 1, some 2, none) := by decide

/-! ### Reset and the invariants -/

theorem witness_FlagsClean : State.reset.FlagsClean := by unfold State.FlagsClean; decide
theorem witness_MemoryCanonical : State.reset.MemoryCanonical := rfl
theorem witness_CountersInRange : State.reset.CountersInRange :=
  ⟨by decide, by decide, by decide, by decide, by decide⟩
theorem witness_SurfacesSized : State.reset.SurfacesSized :=
  ⟨Surface.sized_filled _, Surface.sized_filled _, Surface.sized_filled _, Surface.sized_filled _⟩

/-- The four invariants' statements: a state that meets them all takes a step. -/
theorem witness_StepKeeps : (State.reset.FlagsClean ∧ State.reset.MemoryCanonical ∧ State.reset.CountersInRange ∧
    State.reset.SurfacesSized) ∧ ∃ t, step State.reset = .next t :=
  ⟨⟨witness_FlagsClean, witness_MemoryCanonical, witness_CountersInRange, witness_SurfacesSized⟩, _, rfl⟩

/-- The counters at the ends of their ranges meet the invariant too. -/
theorem witness_CountersInRange_ends :
    State.CountersInRange { State.reset with numCycles := 24, divAcc := 255, countdown := 1, lineCounter := 1, linesRendered := 144 } ∧
    State.CountersInRange { State.reset with countdown := 1024, lineCounter := 456 } :=
  ⟨⟨by decide, by decide, by decide, by decide, by decide⟩, ⟨by decide, by decide, by decide, by decide, by decide⟩⟩

/-! ### Witnesses: the hypotheses of each statement, clause by clause -/

theorem witness_EncodeOfDecode : decode [0x78, 0xC9] = .ok (.ldAB, [0xC9]) ∧ Instr.ldAB ≠ .stop :=
  ⟨rfl, by decide⟩

theorem witness_ByteZeroDecides : lengthOfOpcode 0xFA = 3 ∧ lengthOfOpcode 0xCB = 2 ∧ lengthOfOpcode 0xFF = 1 ∧
    (decodeBytes 0xFD 0 0).wellFormed = false ∧ (decodeBytes 0xFE 0 0).wellFormed = true := by decide

theorem witness_StepRunsDecoded_next : State.reset.fault = none ∧
    decode [State.reset.memRead State.reset.pc, State.reset.memRead (State.reset.pc + 1),
      State.reset.memRead (State.reset.pc + 2)] = .ok (.nop, [0, 0]) ∧
    ∃ t, exec .nop State.reset = .next t ∧ t.fault = none := ⟨rfl, rfl, _, rfl, rfl⟩

theorem witness_StepRunsDecoded_fault :
    let s := State.reset.memWrite 0x0100 0x10
    s.fault = none ∧ decode [s.memRead s.pc, s.memRead (s.pc + 1), s.memRead (s.pc + 2)] = .ok (.stop, [0]) ∧
      ∃ t, exec .stop s = .next t ∧ t.fault ≠ none := ⟨rfl, rfl, _, rfl, by decide⟩

theorem witness_EveryStepAnswersNext : State.fault { State.reset with fault := some (.stop 0x0100) } ≠ none := by decide

theorem witness_LoadPair : Pair.hl ≠ .sp := by decide
theorem witness_IncDecPair : Pair.bc ≠ .sp := by decide
theorem witness_PopRegisterPair : StackPair.hl ≠ .af ∧ StackPair.af = .af := by decide
theorem witness_AddAndAdc : (AluOp.add = .add ∨ AluOp.add = .adc) ∧ (AluOp.adc = .add ∨ AluOp.adc = .adc) := by decide
theorem witness_SubAndSbc : (AluOp.sub = .sub ∨ AluOp.sub = .sbc) ∧ (AluOp.sbc = .sub ∨ AluOp.sbc = .sbc) := by decide
theorem witness_Logic : (AluOp.and = .and ∨ AluOp.and = .xor ∨ AluOp.and = .or) ∧
    (AluOp.xor = .and ∨ AluOp.xor = .xor ∨ AluOp.xor = .or) ∧ (AluOp.or = .and ∨ AluOp.or = .xor ∨ AluOp.or = .or) := by
  decide

/-- 99 plus 99, every digit at its bound. -/
theorem witness_DaaAfterAddIsDecimal :
    let s := { State.reset with a := 0x99 }
    (9 < 10 ∧ s.a = BitVec.ofNat 8 (16 * 9 + 9)) ∧
      ∃ t, exec (.addAImm (BitVec.ofNat 8 (16 * 9 + 9))) s = .next t ∧ ∃ u, exec .daa t = .next u :=
  ⟨⟨by decide, rfl⟩, _, rfl, _, rfl⟩

/-- The byte tested has the bit set and clear. -/
theorem witness_BitTest : State.reset.a.toNat / 2 ^ Code3.k0.toNat % 2 = 1 ∧
    State.reset.b.toNat / 2 ^ Code3.k7.toNat % 2 = 0 := by decide

/-- Every condition holds in some state and fails in another: those of ConditionalJumps, Calls and Returns. -/
theorem witness_condition : ∀ cc : Cond, ∃ s t : State, condition s cc ∧ ¬ condition t cc := by
  intro cc
  cases cc
  · exact ⟨{ State.reset with f := 0x00 }, { State.reset with f := 0x80 }, by unfold condition; decide, by unfold condition; decide⟩
  · exact ⟨{ State.reset with f := 0x80 }, { State.reset with f := 0x00 }, by unfold condition; decide, by unfold condition; decide⟩
  · exact ⟨{ State.reset with f := 0x00 }, { State.reset with f := 0x10 }, by unfold condition; decide, by unfold condition; decide⟩
  · exact ⟨{ State.reset with f := 0x10 }, { State.reset with f := 0x00 }, by unfold condition; decide, by unfold condition; decide⟩

theorem witness_ReturnUndoesCall :
    (∃ t, exec (.callWord 0xFFFF) State.reset = .next t ∧ ∃ u, exec .ret t = .next u) ∧
    (∃ t, exec (Row.restart .k7) State.reset = .next t ∧ ∃ u, exec .ret t = .next u) ∧
    ∃ u, exec .reti (State.reset.takeInterrupt .joypad) = .next u :=
  ⟨⟨_, rfl, _, rfl⟩, ⟨_, rfl, _, rfl⟩, _, rfl⟩

theorem witness_FatalFaults :
    (∀ v ∈ ([0x10, 0xD3, 0xFD] : List Byte), (State.reset.memWrite 0x0100 v).fault = none ∧
      (State.reset.memWrite 0x0100 v).memRead 0x0100 = v) ∧
    (0xFD : Byte) ∈ ([0xD3, 0xDB, 0xDD, 0xE3, 0xE4, 0xEB, 0xEC, 0xED, 0xF4, 0xFC, 0xFD] : List Byte) := by decide

theorem witness_FaultsAndCosts : (∃ t, exec (.callWord 0x1234) State.reset = .next t) ∧ Instr.callWord 0x1234 ≠ .stop ∧
    (Instr.callWord 0x1234).wellFormed = true := ⟨⟨_, rfl⟩, by decide, rfl⟩

/-- Each case of the two right-hand sides, and a plain instruction. -/
theorem witness_ControlBitWriters : (∃ t, exec .ei State.reset = .next t) ∧ (∃ t, exec .reti State.reset = .next t) ∧
    (∃ t, exec .di State.reset = .next t) ∧ (∃ t, exec .halt State.reset = .next t) ∧
    ∃ t, exec .nop State.reset = .next t := ⟨⟨_, rfl⟩, ⟨_, rfl⟩, ⟨_, rfl⟩, ⟨_, rfl⟩, _, rfl⟩

/-- A form of every kind of `storedTo`, with the addresses it gives: at the ends of the address space, a CALL cc taken and not
taken, and a form that stores nothing. -/
theorem witness_InstructionFootprint :
    let s := { State.reset with sp := 0x0001 }
    (∀ i ∈ ([.ldAtHlImm 0x12, .ldAtBcA, .ldAtWordA 0xFFFF, .ldhAtCA, .ldhAtImmA 0xFF, .ldAtWordSp 0xFFFF, .pushAf,
        .callZWord 0x1234, .callNzWord 0x1234, .ldAAtHl] : List Instr), ∃ t, exec i s = .next t) ∧
      storedTo (.ldAtHlImm 0x12) s = [0x014D] ∧ storedTo .ldAtBcA s = [0x0013] ∧ storedTo (.ldAtWordA 0xFFFF) s = [0xFFFF] ∧
      storedTo .ldhAtCA s = [0xFF13] ∧ storedTo (.ldhAtImmA 0xFF) s = [0xFFFF] ∧
      storedTo (.ldAtWordSp 0xFFFF) s = [0xFFFF, 0x0000] ∧ storedTo .pushAf s = [0x0000, 0xFFFF] ∧
      storedTo (.callZWord 0x1234) s = [0x0000, 0xFFFF] ∧ storedTo (.callNzWord 0x1234) s = [] ∧
      storedTo .ldAAtHl s = [] := by
  refine ⟨?_, rfl, rfl, rfl, rfl, rfl, rfl, rfl, rfl, rfl, rfl⟩
  simp only [List.forall_mem_cons]
  exact ⟨⟨_, rfl⟩, ⟨_, rfl⟩, ⟨_, rfl⟩, ⟨_, rfl⟩, ⟨_, rfl⟩, ⟨_, rfl⟩, ⟨_, rfl⟩, ⟨_, rfl⟩, ⟨_, rfl⟩, ⟨_, rfl⟩,
    fun _ h => absurd h List.not_mem_nil⟩

theorem witness_HostReset : (159 < 160 ∧ 143 < 144) ∧ (0xFF00 : Word) ∉
    ([(0xFF04, 0x00), (0xFF05, 0x00), (0xFF06, 0x00), (0xFF07, 0x00), (0xFF0F, 0x00), (0xFF40, 0x91), (0xFF41, 0x06),
      (0xFF42, 0x00), (0xFF43, 0x00), (0xFF44, 0x00), (0xFF45, 0x00), (0xFF47, 0xFC), (0xFF48, 0xFF), (0xFF49, 0xFF),
      (0xFF4A, 0x00), (0xFF4B, 0x00), (0xFFFF, 0x00)] : List (Word × Byte)).map Prod.fst := by decide

theorem witness_FirstStepAfterPowerOn : Memory.lookup [] 0x0100 = 0x00 := by decide

/-- The lowest and the highest source, with every source pending and with the highest alone. -/
theorem witness_InterruptDispatch :
    (let s := withBytes (withBytes { State.reset with ime := true } 0xFF0F [0x1F]) 0xFFFF [0x1F]
     s.ime = true ∧ s.pendingAndEnabled .vblank ∧ ∀ other : IntSource, other.index < IntSource.vblank.index →
       ¬ s.pendingAndEnabled other) ∧
    (let s := withBytes (withBytes { State.reset with ime := true } 0xFF0F [0x10]) 0xFFFF [0x1F]
     s.ime = true ∧ s.pendingAndEnabled .joypad ∧ (∀ other : IntSource, other.index < IntSource.joypad.index →
       ¬ s.pendingAndEnabled other) ∧ (0xFF0F : Word) ∉ [s.sp - 1, s.sp - 2]) := by
  unfold State.pendingAndEnabled
  refine ⟨⟨rfl, by decide, fun _ h => absurd h (Nat.not_lt_zero _)⟩, rfl, by decide, fun other => ?_, by decide⟩
  cases other <;> decide

theorem witness_UnhaltWithoutDispatch :
    (let s := withBytes (withBytes { State.reset with halted := true } 0xFF0F [0x10]) 0xFFFF [0x10]
     s.ime = false ∧ s.halted = true ∧ s.somePending) ∧
    (¬ State.reset.somePending) ∧ (State.reset.ime = false ∧ State.reset.halted = false) := by
  unfold State.somePending State.pendingAndEnabled
  refine ⟨⟨rfl, rfl, .joypad, by decide⟩, ?_, rfl, rfl⟩
  rintro ⟨src, h⟩
  revert h
  cases src <;> decide

/-- A tick at a countdown of exactly the cycles, with TIMA at 255 and at 254; none one cycle short of it, and none with the
timer off. -/
theorem witness_TimerAdvances :
    (∀ tima ∈ ([255, 254] : List Byte),
      let s := withBytes { State.reset with countdown := 4 } 0xFF05 [tima, 0x23, 0x04]
      ((s.memRead 0xFF07).getLsbD 2 = true ∧ s.countdown - (4 : Nat) ≤ 0) ∧ s.memRead 0xFF05 = tima) ∧
    (¬ ((State.memWrite { State.reset with countdown := 5 } 0xFF07 0x04).memRead 0xFF07).getLsbD 2 = true ∨
      ¬ (5 : Int) - (4 : Nat) ≤ 0) ∧
    ¬ (State.reset.memRead 0xFF07).getLsbD 2 = true := by decide

/-- The mode at the ends of its ranges of elapsed cycles, and on the first line of V-blank. -/
theorem witness_PpuLineModeStat :
    ModeAfter State.reset 79 = 2 ∧ ModeAfter State.reset 80 = 3 ∧ ModeAfter State.reset 251 = 3 ∧
    ModeAfter State.reset 252 = 0 ∧ LineAfter State.reset 455 = 0 ∧ LineAfter State.reset 456 = 1 ∧
    ModeAfter (State.reset.memWrite 0xFF44 143) 456 = 1 ∧ LineAfter (State.reset.memWrite 0xFF44 153) 456 = 0 := by
  unfold ModeAfter LineAfter CounterAfter
  decide

/-- The frame's case, the row's case at the last row, and neither. -/
theorem witness_PpuRenders :
    (let s := State.memWrite { State.reset with lineCounter := 4, linesRendered := 144 } 0xFF44 143
     s.linesRendered ≤ 144 ∧ s.lineCounter - (4 : Nat) ≤ 0 ∧ LineAfter s 4 = 144) ∧
    (let s := { State.reset with lineCounter := 208, mode := .pixelTransfer, linesRendered := 143 }
     ModeAfter s 4 = 0 ∧ s.mode ≠ .hblank ∧ s.linesRendered < 144) ∧
    ¬ (ModeAfter State.reset 4 = 0) ∧ ¬ (State.reset.lineCounter - (4 : Nat) ≤ 0) := by
  unfold ModeAfter LineAfter CounterAfter
  decide

/-- The last pixel of the last row, with the window at its two edges and without it. -/
theorem witness_RowRendered :
    State.reset.SurfacesSized ∧ 143 < 144 ∧ 159 < 160 ∧
    (let s := withBytes (State.reset.memWrite 0xFF40 0xB1) 0xFF4A [143, 7]
     (s.num 0xFF40 / 32 % 2 = 1 ∧ s.num 0xFF4A ≤ 143) ∧ ((159 : Nat) : Int) = (s.num 0xFF4B : Int) - 7 + (159 : Nat)) ∧
    (let s := withBytes (State.reset.memWrite 0xFF40 0xB1) 0xFF4A [143, 166]
     ((159 : Nat) : Int) = (s.num 0xFF4B : Int) - 7 + (0 : Nat)) ∧
    ¬ (State.reset.num 0xFF40 / 32 % 2 = 1 ∧ State.reset.num 0xFF4A ≤ 143) :=
  ⟨witness_SurfacesSized, by decide, by decide, by decide, by decide, by decide⟩

/-- A sprite in the last slot alone, at the canvas's corner. -/
def lastSlot : State :=
  (withBytes (State.reset.memWrite 0xFF40 0x93) 0xFE9C [0x10, 0x08, 0x00, 0x00]).memWrite 0x8001 0x80

theorem witness_FrameComposed_drawn : lastSlot.num 0xFF40 / 2 % 2 = 1 ∧ 39 < 40 ∧ SpriteDraws lastSlot 39 0 0 3 ∧
    ∀ lower, lower < 39 → ∀ w, ¬ SpriteDraws lastSlot lower 0 0 w := by
  refine ⟨by decide, by decide, ?_, ?_⟩
  · unfold SpriteDraws
    exact ⟨0, 0, by decide⟩
  · intro lower hl w h
    have hy : ∀ lower, lower < 39 → lastSlot.num (0xFE00 + 4 * lower) = 0 := by decide
    have hh : ¬ (lastSlot.num 0xFF40 / 4 % 2 = 1) := by decide
    unfold SpriteDraws at h
    obtain ⟨r, c, hr, -, htop, -⟩ := h
    rw [hy lower hl] at htop
    rw [if_neg hh] at hr
    omega

theorem witness_FrameComposed_none : ¬ (State.reset.num 0xFF40 / 2 % 2 = 1 ∧ ∃ slot v, slot < 40 ∧
    SpriteDraws State.reset slot 159 143 v) := fun h => absurd h.1 (by decide)

end Sys2Proof
end

/-! SUPPORT. One rule for the whole instruction set: a property closed under the operations that the meanings are made of
holds after every instruction. Then the same for a scheduler step, whose other parts are TIMER, PPU and IC. -/

namespace Sys2Proof.Machine

/-! ### Closed under the operations of the CPU -/

/-- The property is kept by every operation on registers, memory, flags, PC and the cost that an instruction is made of: F is
written only with a zero low nibble (10_state.md R24), and a cost is at most 24 and a multiple of 4
(70_reset_and_hazards.md R420). -/
structure ClosedUnderCpu (P : State → Prop) : Prop where
  setReg : ∀ s r v, P s → P (s.setReg r v)
  setF : ∀ s v, v &&& 0x0F = 0 → P s → P (s.setF v)
  setSp : ∀ s v, P s → P (s.setSp v)
  setPc : ∀ s v, P s → P (s.setPc v)
  memWrite : ∀ s k v, P s → P (s.memWrite k v)
  setNumCycles : ∀ s n, n ≤ 24 ∧ n % 4 = 0 → P s → P (s.setNumCycles n)

/-- The property is kept by what the shape does to IME, the halted flag and the fault record; for a shape that writes none of
them this asks nothing. -/
structure ClosedUnderControl (sh : Shape) (P : State → Prop) : Prop where
  imeOn : sh = .enableInterrupts ∨ sh = .returnEnabling → ∀ s, P s → P (s.setIme true)
  imeOff : sh = .disableInterrupts → ∀ s, P s → P (s.setIme false)
  halt : sh = .haltCpu → ∀ s, P s → P (s.setHalted true)
  fault : sh = .stopCpu ∨ (∃ opcode, sh = .unrecognized opcode) → ∀ s r, P s → P (s.setFault (some r))

/-- Whatever next state the result holds has the property. -/
def Answers (P : State → Prop) (r : Result) : Prop := ∀ t, r = .next t → P t

theorem answers_next {P : State → Prop} {s : State} (h : P s) : Answers P (.next s) := by
  rintro t ⟨⟩
  exact h

/-- Every figure of the cost table is at most 24 and a multiple of 4 (70_reset_and_hazards.md R420). -/
theorem cost_range (line : Params.CostLine) (taken : Bool) :
    Params.cost line taken ≤ 24 ∧ Params.cost line taken % 4 = 0 := by
  cases line <;> cases taken <;> decide

namespace ClosedUnderCpu

variable {P : State → Prop} (hP : ClosedUnderCpu P) {s : State} (hs : P s)
include hP hs

theorem fetched (n : Nat) : P (s.fetched n) := hP.setNumCycles _ _ (by decide) (hP.setPc _ _ hs)

theorem setFlags (z n h c : Bool) : P (s.setFlags z n h c) := hP.setF _ _ (f_setFlags_low s z n h c) hs

theorem setPair (p : Pair) (v : Word) : P (s.setPair p v) := by
  cases p with
  | bc | de | hl => rw [State.setPair]; exact hP.setReg _ _ _ (hP.setReg _ _ _ hs)
  | sp => exact hP.setSp _ _ hs

theorem setStackPair (p : StackPair) (v : Word) : P (s.setStackPair p v) := by
  cases p with
  | bc | de | hl => rw [State.setStackPair]; exact hP.setPair hs _ v
  | af =>
    have low : v.lo &&& 0xF0 &&& 0x0F = 0 := by rw [BitVec.and_assoc]; exact BitVec.and_zero
    exact hP.setF _ _ low (hP.setReg _ _ _ hs)

theorem memWrite16 (k v : Word) : P (s.memWrite16 k v) := hP.memWrite _ _ _ (hP.memWrite _ _ _ hs)

theorem push16 (v : Word) : P (s.push16 v) :=
  hP.memWrite _ _ _ (hP.setSp _ _ (hP.memWrite _ _ _ (hP.setSp _ _ hs)))

theorem dropTop : P s.dropTop := hP.setSp _ _ hs

theorem setAtHl (v : Byte) : P (s.setAtHl v) := hP.memWrite _ _ _ hs

theorem alu (op : AluOp) (x : Byte) : P (s.alu op x) := by
  cases op with
  | cp => exact hP.setFlags hs _ _ _ _
  | add | adc | sub | sbc | and | xor | or => exact hP.setFlags (hP.setReg _ _ _ hs) _ _ _ _

/-- An instruction that ends at a cost of the table. -/
theorem done (line : Params.CostLine) (taken : Bool) : Answers P (s.done (Params.cost line taken)) :=
  answers_next (hP.setNumCycles _ _ (cost_range line taken) hs)

end ClosedUnderCpu

/-- A property closed under the operations of the CPU holds of what a shared operation answers. -/
theorem Shape.run_keeps {P : State → Prop} (hP : ClosedUnderCpu P) {sh : Shape} (hC : ClosedUnderControl sh P) {s : State}
    (hs : P s) : Answers P (sh.run s) := by
  have hf : ∀ n, P (s.fetched n) := hP.fetched hs
  cases sh with
  | ldReg | ldRegImm | ldRegAtHl | ldAPair | ldAWord | ldAHighC | ldAHighImm | resReg | setBitReg =>
    exact hP.done (hP.setReg _ _ _ (hf _)) _ _
  | ldAtHlReg | ldAtHlByte | ldPairA | ldWordA | ldHighCA | ldHighImmA | resMem | setBitMem =>
    exact hP.done (hP.memWrite _ _ _ (hf _)) _ _
  | ldAStep => exact hP.done (hP.setPair (hP.setReg _ _ _ (hf 1)) _ _) _ _
  | ldStepA => exact hP.done (hP.setPair (hP.setAtHl (hf 1) _) _ _) _ _
  | ldPairWord | incPair | decPair => exact hP.done (hP.setPair (hf _) _ _) _ _
  | ldAtWordSp => exact hP.done (hP.memWrite16 (hf 3) _ _) _ _
  | ldSpFromHl => exact hP.done (hP.setSp _ _ (hf 1)) _ _
  | pushPair => exact hP.done (hP.push16 (hf 1) _) _ _
  | popPair => exact hP.done (hP.setStackPair (hP.dropTop (hf 1)) _ _) _ _
  | ldHlFromSp | addHlPair => exact hP.done (hP.setFlags (hP.setPair (hf _) _ _) _ _ _ _) _ _
  | aluReg | aluAtHl | aluImm => exact hP.done (hP.alu (hf _) _ _) _ _
  | incReg | decReg | decimalAdjust | complementA | rotAcc | rotReg =>
    exact hP.done (hP.setFlags (hP.setReg _ _ _ (hf _)) _ _ _ _) _ _
  | incMem | decMem | rotMem => exact hP.done (hP.setFlags (hP.setAtHl (hf _) _) _ _ _ _) _ _
  | setCarry | complementCarry | bitReg | bitMem => exact hP.done (hP.setFlags (hf _) _ _ _ _) _ _
  | addSpImm => exact hP.done (hP.setFlags (hP.setSp _ _ (hf 2)) _ _ _ _) _ _
  | jumpTo | jumpHl | jumpRel => exact hP.done (hP.setPc _ _ (hf _)) _ _
  | jumpIf | jumpRelIf =>
    exact iteInduction (fun _ => hP.done (hP.setPc _ _ (hf _)) _ true) (fun _ => hP.done (hf _) _ false)
  | callTo | restart => exact hP.done (hP.setPc _ _ (hP.push16 (hf _) _)) _ _
  | callIf =>
    exact iteInduction (fun _ => hP.done (hP.setPc _ _ (hP.push16 (hf 3) _)) _ true) (fun _ => hP.done (hf 3) _ false)
  | returnPopping => exact hP.done (hP.setPc _ _ (hP.dropTop (hf 1))) _ _
  | returnIf =>
    exact iteInduction (fun _ => hP.done (hP.setPc _ _ (hP.dropTop (hf 1))) _ true) (fun _ => hP.done (hf 1) _ false)
  | returnEnabling => exact hP.done (hC.imeOn (.inr rfl) _ (hP.setPc _ _ (hP.dropTop (hf 1)))) _ _
  | noOperation => exact hP.done (hf 1) _ _
  | haltCpu => exact answers_next (hP.setNumCycles _ _ (by decide) (hP.setPc _ _ (hC.halt rfl _ (hf 1))))
  | disableInterrupts => exact hP.done (hC.imeOff rfl _ (hf 1)) _ _
  | enableInterrupts => exact hP.done (hC.imeOn (.inl rfl) _ (hf 1)) _ _
  | stopCpu => exact answers_next (hC.fault (.inl rfl) _ _ (hP.setNumCycles _ _ (by decide) hs))
  | unrecognized opcode => exact answers_next (hC.fault (.inr ⟨opcode, rfl⟩) _ _ (hP.setNumCycles _ _ (by decide) hs))

/-- A property closed under the operations of the CPU is kept by every instruction. -/
theorem exec_keeps {P : State → Prop} (hP : ClosedUnderCpu P) {i : Instr} (hC : ClosedUnderControl (shapeOf i) P)
    {s t : State} (hs : P s) (h : exec i s = .next t) : P t :=
  Shape.run_keeps hP hC hs t (exec_eq_run i s ▸ h)

/-! ### A scheduler step -/

/-- What a step can be: nothing on a faulted machine, else the instruction at PC and the scheduler's work
(60_exceptions.md R300, R310). -/
theorem step_cases {s t : State} (h : step s = .next t) :
    (s.fault ≠ none ∧ t = s) ∨
      (s.fault = none ∧ ∃ u, exec s.fetchInstr s = .next u ∧ t = u.afterInstruction) := by
  unfold step at h
  split at h
  · next hf => cases h; exact .inl ⟨by simp [hf], rfl⟩
  · next hf =>
    split at h <;> cases h
    exact .inr ⟨hf, _, ‹_›, rfl⟩

/-- The scheduler's work after an instruction: nothing after a fatal fault, else TIMER, PPU and IC (60_exceptions.md R300). -/
theorem State.afterInstruction_cases (s : State) :
    (s.fault ≠ none ∧ s.afterInstruction = s) ∨
      (s.fault = none ∧
        s.afterInstruction = ((s.timerAdvance s.numCycles).ppuAdvance s.numCycles).servicePending) := by
  unfold State.afterInstruction
  split
  · next hf => exact .inl ⟨by simp [hf], rfl⟩
  · next hf => exact .inr ⟨hf, rfl⟩

/-- A property that the instructions, TIMER, PPU and IC keep, each fed the instruction's cost, is kept by every step. -/
theorem step_keeps {P : State → Prop} (hexec : ∀ i s t, P s → exec i s = .next t → P t)
    (htimer : ∀ s, P s → P (s.timerAdvance s.numCycles)) (hppu : ∀ s, P s → P (s.ppuAdvance s.numCycles))
    (hservice : ∀ s, P s → P s.servicePending) {s t : State} (hs : P s) (h : step s = .next t) : P t := by
  obtain ⟨-, rfl⟩ | ⟨-, u, hu, rfl⟩ := step_cases h
  · exact hs
  · have hPu : P u := hexec _ _ _ hs hu
    have hPt := hppu _ (htimer u hPu)
    rw [State.numCycles_timerAdvance] at hPt
    obtain ⟨-, e⟩ | ⟨-, e⟩ := u.afterInstruction_cases <;> rw [e]
    · exact hPu
    · exact hservice _ hPt

end Sys2Proof.Machine

/-! The low nibble of F (10_state.md R24), the writers of IME and halted (R30, R31), the sizes of the surfaces
(R52), the ranges of the counters (R20, R32, R51, R52) and the state after reset (R55). -/

namespace Sys2Proof.Machine

/-! ### The low nibble of F -/

theorem flagsClean_closed : ClosedUnderCpu State.FlagsClean where
  setReg s r v h := by simpa only [State.FlagsClean, State.f_setReg] using h
  setF _ _ hv _ := hv
  setSp _ _ h := h
  setPc _ _ h := h
  memWrite _ _ _ h := h
  setNumCycles _ _ _ h := h

theorem exec_flagsClean (i : Instr) (s t : State) (hs : s.FlagsClean) (h : exec i s = .next t) : t.FlagsClean :=
  exec_keeps flagsClean_closed ⟨fun _ _ h => h, fun _ _ h => h, fun _ _ h => h, fun _ _ _ h => h⟩ hs h

/-- Settles O45: instructions write F only with a zero low nibble, and TIMER, PPU and IC do not write it. -/
theorem stepKeepsFlagsClean : Obligations.StepKeepsFlagsClean := by
  intro s t hs h
  refine step_keeps exec_flagsClean ?timer ?ppu ?service hs h
  all_goals
    intro s hs
    simpa only [State.FlagsClean, State.f_timerAdvance, State.f_ppuAdvance, State.f_servicePending] using hs

/-! ### The writers of IME and halted -/

theorem ime_closed (b : Bool) : ClosedUnderCpu (fun s => s.ime = b) where
  setReg s r v h := by simpa only [State.ime_setReg] using h
  setF _ _ _ h := h
  setSp _ _ h := h
  setPc _ _ h := h
  memWrite _ _ _ h := h
  setNumCycles _ _ _ h := h

theorem halted_closed (b : Bool) : ClosedUnderCpu (fun s => s.halted = b) where
  setReg s r v h := by simpa only [State.halted_setReg] using h
  setF _ _ _ h := h
  setSp _ _ h := h
  setPc _ _ h := h
  memWrite _ _ _ h := h
  setNumCycles _ _ _ h := h

/-- An instruction other than EI, RETI and DI keeps IME. -/
theorem exec_keeps_ime {i : Instr} {s t : State} (hon : ¬ (i = .ei ∨ i = .reti)) (hoff : i ≠ .di)
    (h : exec i s = .next t) : t.ime = s.ime := by
  refine exec_keeps (ime_closed s.ime) ⟨fun hw => ?_, fun hw => ?_, fun _ _ h => h, fun _ _ _ h => h⟩ rfl h
  · exact absurd (hw.imp (shapeOf_ei i).1 (shapeOf_reti i).1) hon
  · exact absurd ((shapeOf_di i).1 hw) hoff

/-- An instruction other than HALT keeps the halted flag. -/
theorem exec_keeps_halted {i : Instr} {s t : State} (hi : i ≠ .halt) (h : exec i s = .next t) : t.halted = s.halted :=
  exec_keeps (halted_closed s.halted)
    ⟨fun _ _ h => h, fun _ _ h => h, fun hw => absurd ((shapeOf_halt i).1 hw) hi, fun _ _ _ h => h⟩ rfl h

theorem exec_ime {i : Instr} {s t : State} (h : exec i s = .next t) :
    t.ime = if i = .ei ∨ i = .reti then true else if i = .di then false else s.ime := by
  split
  case isTrue hon => obtain rfl | rfl := hon <;> cases h <;> rfl
  case isFalse hon =>
    split
    case isTrue hoff => subst hoff; cases h; rfl
    case isFalse hoff => exact exec_keeps_ime hon hoff h

theorem exec_halted {i : Instr} {s t : State} (h : exec i s = .next t) :
    t.halted = if i = .halt then true else s.halted := by
  split
  case isTrue hi => subst hi; cases h; rfl
  case isFalse hi => exact exec_keeps_halted hi h

/-- Settles O43: every other shape is made of operations that keep the two bits. -/
theorem controlBitWriters : Obligations.ControlBitWriters := fun _ _ _ h => ⟨exec_ime h, exec_halted h⟩

/-! ### Instructions and the devices -/

/-- The hidden state of TIMER and PPU, as one value: what `KeepsDevices` speaks of. -/
def State.devices (s : State) :=
  ((s.divAcc, s.countdown), s.lineCounter, s.mode, s.linesRendered, s.bgSurface, s.winSurface, s.sprSurface, s.frameBuffer,
    s.frames)

theorem keepsDevices_iff (s t : State) : KeepsDevices s t ↔ t.devices = s.devices := by
  simp only [State.devices, Prod.mk.injEq]
  constructor
  · rintro ⟨⟨h1, h2⟩, ⟨h3, h4, h5, h6, h7, h8, h9, h10⟩⟩
    exact ⟨⟨h1, h2⟩, h3, h4, h5, h6, h7, h8, h9, h10⟩
  · rintro ⟨⟨h1, h2⟩, h3, h4, h5, h6, h7, h8, h9, h10⟩
    exact ⟨⟨h1, h2⟩, ⟨h3, h4, h5, h6, h7, h8, h9, h10⟩⟩

theorem devices_closed (s : State) : ClosedUnderCpu (fun t => t.devices = s.devices) where
  setReg t r v h := by cases r <;> exact h
  setF _ _ _ h := h
  setSp _ _ h := h
  setPc _ _ h := h
  memWrite _ _ _ h := h
  setNumCycles _ _ _ h := h

/-- No instruction touches the hidden state of TIMER and PPU (20_memory.md R77). -/
theorem exec_keepsDevices {i : Instr} {s t : State} (h : exec i s = .next t) : KeepsDevices s t :=
  (keepsDevices_iff s t).2 <|
    exec_keeps (devices_closed s) ⟨fun _ _ h => h, fun _ _ h => h, fun _ _ h => h, fun _ _ _ h => h⟩ rfl h

/-! ### The sizes of the surfaces -/

theorem State.SurfacesSized.of_keepsPpu {s t : State} (hs : s.SurfacesSized) (h : KeepsPpu s t) : t.SurfacesSized :=
  ⟨h.bgSurface ▸ hs.bg, h.winSurface ▸ hs.win, h.sprSurface ▸ hs.spr, h.frameBuffer ▸ hs.frame⟩

theorem keepsPpu_timerAdvance (s : State) (c : Nat) : KeepsPpu s (s.timerAdvance c) := by constructor <;> simp

theorem keepsPpu_servicePending (s : State) : KeepsPpu s s.servicePending := by constructor <;> simp

namespace State.SurfacesSized

variable {s : State} (h : s.SurfacesSized)
include h

theorem request (src : IntSource) : (s.request src).SurfacesSized := ⟨h.bg, h.win, h.spr, h.frame⟩

theorem memWrite (k : Word) (v : Byte) : (s.memWrite k v).SurfacesSized := ⟨h.bg, h.win, h.spr, h.frame⟩

theorem setLinesRendered (n : Nat) : (s.setLinesRendered n).SurfacesSized := ⟨h.bg, h.win, h.spr, h.frame⟩

theorem setLineCounter (n : Int) : (s.setLineCounter n).SurfacesSized := ⟨h.bg, h.win, h.spr, h.frame⟩

theorem setMode (m : LcdMode) : (s.setMode m).SurfacesSized := ⟨h.bg, h.win, h.spr, h.frame⟩

theorem vblankEntry : s.vblankEntry.SurfacesSized :=
  have h1 := h.request .vblank
  iteInduction (fun _ => h1.renderFrame) (fun _ => h1)

theorem lineChange : s.lineChange.SurfacesSized := by
  rw [State.lineChange_eq]
  extract_lets t u
  have ht : t.SurfacesSized := h.memWrite _ _
  have hu : u.SurfacesSized := iteInduction (fun _ => ht.setLinesRendered 0) (fun _ => ht)
  exact iteInduction (fun _ => hu.vblankEntry) (fun _ => hu)

theorem lineAdvance (c : Nat) : (s.lineAdvance c).SurfacesSized :=
  iteInduction (fun _ => (h.setLineCounter _).lineChange) (fun _ => h.setLineCounter _)

theorem modeChange (m : LcdMode) : (s.modeChange m).SurfacesSized := by
  rw [State.modeChange_eq]
  extract_lets t u ly
  have ht : t.SurfacesSized := h.setMode m
  have hu : u.SurfacesSized := iteInduction (fun _ => ht.request .lcdStat) (fun _ => ht)
  exact iteInduction (fun _ => (hu.renderLine ly).setLinesRendered _) (fun _ => hu)

theorem modeAdvance : s.modeAdvance.SurfacesSized := by
  rw [State.modeAdvance_eq]
  extract_lets m t
  have ht : t.SurfacesSized := iteInduction (fun _ => h.modeChange m) (fun _ => h)
  exact ht.memWrite _ _

theorem lineCompare : s.lineCompare.SurfacesSized := by
  rw [State.lineCompare_eq]
  extract_lets t
  have ht : t.SurfacesSized := h.memWrite _ _
  exact iteInduction (fun _ => iteInduction (fun _ => ht.request _) (fun _ => ht)) (fun _ => h.memWrite _ _)

theorem ppuAdvance (c : Nat) : (s.ppuAdvance c).SurfacesSized := (h.lineAdvance c).modeAdvance.lineCompare

end State.SurfacesSized

/-- Settles O48: only the PPU writes the surfaces, a row at a time or a whole frame, and either way in full size. -/
theorem stepKeepsSurfacesSized : Obligations.StepKeepsSurfacesSized := fun _ _ hs h =>
  step_keeps (fun _ _ _ hs he => hs.of_keepsPpu (exec_keepsDevices he).ppu)
    (fun s hs => hs.of_keepsPpu (keepsPpu_timerAdvance s _)) (fun _ hs => hs.ppuAdvance _)
    (fun s hs => hs.of_keepsPpu (keepsPpu_servicePending s)) hs h

/-! ### The ranges of the counters -/

/-- The cost an instruction leaves is one of the table, HALT's 4 or a fault's 0 (10_state.md R32). -/
theorem numCycles_closed : ClosedUnderCpu (fun s => s.numCycles ≤ 24 ∧ s.numCycles % 4 = 0) where
  setReg s r v h := by simpa only [State.numCycles_setReg] using h
  setF _ _ _ h := h
  setSp _ _ h := h
  setPc _ _ h := h
  memWrite _ _ _ h := h
  setNumCycles _ _ hn _ := hn

theorem State.divAcc_dividerAdvance_lt (s : State) (c : Nat) : (s.dividerAdvance c).divAcc < 256 := by
  rw [State.dividerAdvance_eq]
  split
  · simp
  · next hlt => exact Nat.lt_of_not_le hlt

theorem period_range (tac : Byte) : 0 < Params.period tac ∧ Params.period tac ≤ 1024 := by
  unfold Params.period
  split <;> decide

theorem State.countdown_countdownAdvance_range {s : State} (c : Nat) (h : 0 < s.countdown ∧ s.countdown ≤ 1024) :
    0 < (s.countdownAdvance c).countdown ∧ (s.countdownAdvance c).countdown ≤ 1024 := by
  have hp := period_range (s.memRead Params.tac)
  rw [State.countdownAdvance_eq]
  split
  · split
    · simp only [State.countdown_timaStep, State.countdown_setCountdown]; omega
    · simp only [State.countdown_setCountdown]; omega
  · exact h

/-- The overshoot of at most 23 cycles is carried into the next line (60_exceptions.md R351). -/
theorem State.lineCounter_lineAdvance_range {s : State} {c : Nat} (hc : c ≤ 24)
    (h : 1 ≤ s.lineCounter ∧ s.lineCounter ≤ 456) :
    1 ≤ (s.lineAdvance c).lineCounter ∧ (s.lineAdvance c).lineCounter ≤ 456 := by
  unfold State.lineAdvance
  dsimp only
  split
  · simp only [State.lineCounter_lineChange, State.lineCounter_setLineCounter]; omega
  · simp only [State.lineCounter_setLineCounter]; omega

theorem State.linesRendered_lineChange_le (s : State) : s.lineChange.linesRendered ≤ s.linesRendered := by
  rw [State.lineChange_eq]
  extract_lets t u
  have hu : u.linesRendered ≤ s.linesRendered := by
    unfold u
    split
    · exact Nat.zero_le _
    · exact Nat.le_refl _
  split
  · rwa [State.linesRendered_vblankEntry]
  · exact hu

theorem State.linesRendered_lineAdvance_le (s : State) (c : Nat) : (s.lineAdvance c).linesRendered ≤ s.linesRendered :=
  iteInduction (motive := fun t : State => t.linesRendered ≤ s.linesRendered)
    (fun _ => State.linesRendered_lineChange_le _) (fun _ => Nat.le_refl _)

/-- A row is counted only below 144 (60_exceptions.md R355). -/
theorem State.linesRendered_modeChange_le {s : State} (m : LcdMode) (h : s.linesRendered ≤ 144) :
    (s.modeChange m).linesRendered ≤ 144 := by
  rw [State.modeChange_eq]
  extract_lets t u ly
  have hu : u.linesRendered ≤ 144 := by
    unfold u
    split <;> exact h
  split
  · next hrow => exact hrow.2.2
  · exact hu

theorem State.linesRendered_ppuAdvance_le {s : State} (c : Nat) (h : s.linesRendered ≤ 144) :
    (s.ppuAdvance c).linesRendered ≤ 144 := by
  have hl : (s.lineAdvance c).linesRendered ≤ 144 := (s.linesRendered_lineAdvance_le c).trans h
  rw [State.ppuAdvance_eq, State.linesRendered_lineCompare, State.modeAdvance_eq]
  extract_lets m t
  exact iteInduction (motive := fun t : State => t.linesRendered ≤ 144)
    (fun _ => State.linesRendered_modeChange_le m hl) (fun _ => hl)

namespace State.CountersInRange

variable {s : State} (h : s.CountersInRange)
include h

theorem of_exec {i : Instr} {t : State} (he : exec i s = .next t) : t.CountersInRange := by
  obtain ⟨htimer, hppu⟩ := exec_keepsDevices he
  have hcost : t.numCycles ≤ 24 ∧ t.numCycles % 4 = 0 :=
    exec_keeps numCycles_closed ⟨fun _ _ h => h, fun _ _ h => h, fun _ _ h => h, fun _ _ _ h => h⟩ h.numCycles he
  exact ⟨hcost, htimer.divAcc ▸ h.divAcc, htimer.countdown ▸ h.countdown, hppu.lineCounter ▸ h.lineCounter,
    hppu.linesRendered ▸ h.linesRendered⟩

theorem timerAdvance (c : Nat) : (s.timerAdvance c).CountersInRange where
  numCycles := by simpa using h.numCycles
  divAcc := by rw [State.timerAdvance, State.divAcc_countdownAdvance]; exact s.divAcc_dividerAdvance_lt c
  countdown := State.countdown_countdownAdvance_range c (by simpa using h.countdown)
  lineCounter := by simpa using h.lineCounter
  linesRendered := by simpa using h.linesRendered

theorem ppuAdvance {c : Nat} (hc : c ≤ 24) : (s.ppuAdvance c).CountersInRange where
  numCycles := by simpa using h.numCycles
  divAcc := by simpa using h.divAcc
  countdown := by simpa using h.countdown
  lineCounter := by simpa [State.ppuAdvance_eq] using State.lineCounter_lineAdvance_range hc h.lineCounter
  linesRendered := State.linesRendered_ppuAdvance_le c h.linesRendered

theorem servicePending : s.servicePending.CountersInRange :=
  ⟨by simpa using h.numCycles, by simpa using h.divAcc, by simpa using h.countdown, by simpa using h.lineCounter,
    by simpa using h.linesRendered⟩

end State.CountersInRange

/-- Settles O47: TIMER and PPU are fed a cost of at most 24, so an overshoot stays within one line. -/
theorem stepKeepsCountersInRange : Obligations.StepKeepsCountersInRange := fun _ _ hs h =>
  step_keeps (fun _ _ _ hs he => hs.of_exec he) (fun _ hs => hs.timerAdvance _) (fun _ hs => hs.ppuAdvance hs.numCycles.1)
    (fun _ hs => hs.servicePending) hs h

/-! ### The reset state -/

theorem reset_flagsClean : State.reset.FlagsClean := by
  unfold State.FlagsClean
  decide

theorem reset_countersInRange : State.reset.CountersInRange where
  numCycles := by decide
  divAcc := by decide
  countdown := by decide
  lineCounter := by decide
  linesRendered := by decide

theorem reset_surfacesSized : State.reset.SurfacesSized where
  bg := Surface.sized_filled _
  win := Surface.sized_filled _
  spr := Surface.sized_filled _
  frame := Surface.sized_filled _

/-- Settles O49: the four values as they stand, and each invariant on the reset state. -/
theorem resetState : Obligations.ResetState :=
  ⟨⟨rfl, rfl, rfl, rfl⟩, reset_flagsClean, reset_mem_wf, reset_countersInRange, reset_surfacesSized⟩

end Sys2Proof.Machine

/-! The canonical form of memory (20_memory.md R60, log entry 1) along a step, and the bytes an instruction leaves alone
(R65, R66, R77). -/

namespace Sys2Proof.Machine

/-! ### The canonical form -/

theorem memoryCanonical_closed : ClosedUnderCpu State.MemoryCanonical where
  setReg s r v h := by simpa only [State.MemoryCanonical, State.mem_setReg] using h
  setF _ _ _ h := h
  setSp _ _ h := h
  setPc _ _ h := h
  memWrite _ k v h := State.memWrite_wf k v h
  setNumCycles _ _ _ h := h

theorem exec_memoryCanonical (i : Instr) (s t : State) (hs : s.MemoryCanonical) (h : exec i s = .next t) :
    t.MemoryCanonical :=
  exec_keeps memoryCanonical_closed ⟨fun _ _ h => h, fun _ _ h => h, fun _ _ h => h, fun _ _ _ h => h⟩ hs h

/-- Settles O46: memory is written through `Memory.store` alone, by the instruction and by TIMER, PPU and IC. -/
theorem stepKeepsMemoryCanonical : Obligations.StepKeepsMemoryCanonical := fun _ _ hs h =>
  step_keeps exec_memoryCanonical (fun _ hs => State.timerAdvance_wf _ hs) (fun _ hs => State.ppuAdvance_wf _ hs)
    (fun _ hs => State.servicePending_wf hs) hs h

/-! ### Memory outside the addresses of a store -/

section
variable (s : State)

@[simp] theorem State.memRead_incFlags (v : Byte) (k : Word) : (s.incFlags v).memRead k = s.memRead k := rfl
@[simp] theorem State.memRead_decFlags (v : Byte) (k : Word) : (s.decFlags v).memRead k = s.memRead k := rfl
@[simp] theorem State.memRead_bitFlags (b : Code3) (v : Byte) (k : Word) : (s.bitFlags b v).memRead k = s.memRead k := rfl
@[simp] theorem State.memRead_rotFlags (op : RotOp) (v res : Byte) (k : Word) :
    (s.rotFlags op v res).memRead k = s.memRead k := rfl
@[simp] theorem State.memRead_daa (k : Word) : s.daa.memRead k = s.memRead k := rfl
@[simp] theorem State.memRead_returnFromInterrupt (k : Word) : s.returnFromInterrupt.memRead k = s.memRead k := rfl

@[simp] theorem State.belowSp_fetched (n : Nat) : (s.fetched n).belowSp = s.belowSp := rfl

theorem State.memRead_setAtHl_other {k : Word} (h : k ∉ [s.hl]) (v : Byte) : (s.setAtHl v).memRead k = s.memRead k :=
  State.memRead_memWrite_other s (List.ne_of_not_mem_cons h) v

theorem State.memRead_memWrite16_other {j k : Word} (h : j ∉ [k, k + 1]) (v : Word) :
    (s.memWrite16 k v).memRead j = s.memRead j := by
  obtain ⟨hlo, hhi⟩ : j ≠ k ∧ j ≠ k + 1 := by simpa using h
  rw [State.memRead_memWrite16, if_neg hhi, if_neg hlo]

theorem State.memRead_push16_other {j : Word} (h : j ∉ s.belowSp) (v : Word) :
    (s.push16 v).memRead j = s.memRead j := by
  obtain ⟨hhi, hlo⟩ : j ≠ s.sp - 1 ∧ j ≠ s.sp - 2 := by simpa [State.belowSp] using h
  rw [State.memRead_push16, if_neg hlo, if_neg hhi]

theorem callTo_keepsMemoryBut (cycles : Nat) (nn : Word) : Answers (KeepsMemoryBut s.belowSp s) (callTo cycles nn s) :=
  answers_next fun k (hk : k ∉ s.belowSp) => by simp [State.memRead_push16_other (s.fetched 3) hk]

end

/-- Each shape changes memory by what it stores: nothing, one byte, one word, or a pushed word. -/
theorem Shape.run_keepsMemoryBut (sh : Shape) (s : State) : Answers (KeepsMemoryBut (sh.stored s) s) (sh.run s) := by
  cases sh with
  | ldAtHlReg | ldAtHlByte | ldStepA | incMem | decMem | rotMem | resMem | setBitMem =>
    exact answers_next fun k (hk : k ∉ [s.hl]) => by simp [State.memRead_setAtHl_other (s.fetched _) hk]
  | ldPairA | ldWordA | ldHighCA | ldHighImmA =>
    exact answers_next fun k hk => by simp [State.memRead_memWrite_other _ (List.ne_of_not_mem_cons hk)]
  | ldAtWordSp => exact answers_next fun k hk => by simp [State.memRead_memWrite16_other _ hk]
  | pushPair | restart =>
    exact answers_next fun k (hk : k ∉ s.belowSp) => by simp [State.memRead_push16_other (s.fetched 1) hk]
  | callTo nn => exact callTo_keepsMemoryBut s _ nn
  | callIf cc nn =>
    show Answers (KeepsMemoryBut (if s.holds cc then s.belowSp else []) s) (Machine.callIf cc nn s)
    unfold Machine.callIf
    split
    · exact callTo_keepsMemoryBut s _ nn
    · exact answers_next fun k _ => by simp
  | jumpIf | jumpRelIf | returnIf =>
    exact iteInduction (fun _ => answers_next fun k _ => by simp) (fun _ => answers_next fun k _ => by simp)
  | ldReg | ldRegImm | ldRegAtHl | ldAPair | ldAWord | ldAHighC | ldAHighImm | ldAStep | ldPairWord | ldSpFromHl | popPair
  | ldHlFromSp | aluReg | aluAtHl | aluImm | incReg | decReg | decimalAdjust | complementA | setCarry | complementCarry
  | addHlPair | incPair | decPair | addSpImm | rotAcc | rotReg | bitReg | bitMem | resReg | setBitReg | jumpTo | jumpHl
  | jumpRel | returnPopping | returnEnabling | noOperation | haltCpu | stopCpu | disableInterrupts | enableInterrupts
  | unrecognized => exact answers_next fun k _ => by simp

/-- An instruction changes only the bytes at the addresses it stores to (20_memory.md R65, R66, R77). -/
theorem exec_keepsMemoryBut {i : Instr} {s t : State} (h : exec i s = .next t) : KeepsMemoryBut (storedTo i s) s t := by
  rw [storedTo_eq_stored]
  exact Shape.run_keepsMemoryBut _ s t (exec_eq_run i s ▸ h)

/-- Settles O44: no operation of an instruction writes the devices, and its stores are those of its shape. -/
theorem instructionFootprint : Obligations.InstructionFootprint := fun _ _ _ h =>
  ⟨exec_keepsDevices h, exec_keepsMemoryBut h⟩

end Sys2Proof.Machine

/-! The encoding (30_encoding.md). The encoder goes by the cells of the two maps, the decoder by an opcode's fields:
every instruction's encoding decodes to it (O2), every cell that the fields of byte 0 select encodes to that byte and its
operand bytes (O3), and so byte 0 alone decides the length and whether the instruction is recognized (O4). -/

namespace Sys2Proof

/-! ### From the instruction to its bytes and back -/

/-- An instruction with an immediate word is read back from its three bytes, low byte first (R100). -/
theorem decode_wordBytes {opcode : Byte} {f : Word → Instr} (hlen : lengthOfOpcode opcode = 3)
    (hf : ∀ lo hi, decodeBytes opcode lo hi = f (Word.ofBytes hi lo)) (nn : Word) (rest : List Byte) :
    decode (wordBytes opcode nn ++ rest) = .ok (f nn, rest) := by
  have hop : ¬opcode = 0x10#8 := by rintro rfl; cases hlen
  simp [decode, wordBytes, hop, hlen, hf]

/-- Settles O2, instruction by instruction: the fields of its opcode select its own cell, and its operand bytes make up
its operand. -/
theorem decodeOfEncode : Obligations.DecodeOfEncode := by
  intro i rest
  cases i with
  | ldBcWord nn | ldAtWordSp nn | ldDeWord nn | ldHlWord nn | ldSpWord nn | jpNzWord nn | jpWord nn | callNzWord nn
  | jpZWord nn | callZWord nn | callWord nn | jpNcWord nn | callNcWord nn | jpCWord nn | callCWord nn | ldAtWordA nn
  | ldAAtWord nn => exact decode_wordBytes rfl (fun _ _ => rfl) nn rest
  | _ => rfl

/-- Settles O1: each word is the encoding of its instruction. -/
theorem decodeWordsOfTheSpec : Obligations.DecodeWordsOfTheSpec :=
  have h (i : Instr) : decode (encode i) = .ok (i, []) := by simpa using decodeOfEncode i []
  ⟨h .ldAB, h (.ldAImm 0x42), h (.ldHlWord 0xC000), h .popAf, h .adcAAtHl, h .daa, h .addHlBc, h .swapA, h .bit7AtHl,
    h .set1E, h (.callWord 0x1234), h (.jrNzOff 0xFB), h .halt, h .illegalDD⟩

/-! ### An opcode is made of its fields (R92) -/

theorem fieldX_eq (op : Byte) : fieldX op = op.toNat / 64 := by
  have := op.isLt
  simp only [fieldX, BitVec.extractLsb'_toNat, Nat.shiftRight_eq_div_pow]
  omega

theorem fieldY_eq (op : Byte) : fieldY op = op.toNat / 8 % 8 := by
  simp [fieldY, BitVec.extractLsb'_toNat, Nat.shiftRight_eq_div_pow]

theorem fieldZ_eq (op : Byte) : fieldZ op = op.toNat % 8 := by
  simp [fieldZ, BitVec.extractLsb'_toNat]

/-- Field p is the upper two bits of field y. -/
theorem fieldP_eq (op : Byte) : fieldP op = fieldY op / 2 := by
  rw [fieldY_eq]
  simp only [fieldP, BitVec.extractLsb'_toNat, Nat.shiftRight_eq_div_pow]
  omega

/-- Field q is the lowest bit of field y. -/
theorem fieldQ_eq (op : Byte) : fieldQ op = decide (fieldY op % 2 = 1) := by
  rw [fieldY_eq, fieldQ, BitVec.getLsbD, Nat.testBit_eq_decide_div_mod_eq, decide_eq_decide]
  omega

theorem fieldX_lt (op : Byte) : fieldX op < 4 := (op.extractLsb' 6 2).isLt
theorem fieldY_lt (op : Byte) : fieldY op < 8 := (op.extractLsb' 3 3).isLt
theorem fieldZ_lt (op : Byte) : fieldZ op < 8 := (op.extractLsb' 0 3).isLt

/-- The opcode as the number its fields make. -/
theorem ofNat_of_fields {op : Byte} {x y z : Nat} (hx : fieldX op = x) (hy : fieldY op = y) (hz : fieldZ op = z) :
    BitVec.ofNat 8 (64 * x + 8 * y + z) = op := by
  rw [fieldX_eq] at hx
  rw [fieldY_eq] at hy
  rw [fieldZ_eq] at hz
  apply BitVec.eq_of_toNat_eq
  have := op.isLt
  rw [BitVec.toNat_ofNat]
  omega

theorem append_eq_ofNat : ∀ (x : BitVec 2) (y z : BitVec 3),
    x ++ y ++ z = BitVec.ofNat 8 (64 * x.toNat + 8 * y.toNat + z.toNat) := by
  decide

/-- The opcode as the concatenation of its fields. -/
theorem append_of_fields {op : Byte} {x : BitVec 2} {y z : BitVec 3} (hx : fieldX op = x.toNat)
    (hy : fieldY op = y.toNat) (hz : fieldZ op = z.toNat) : x ++ y ++ z = op :=
  (append_eq_ofNat x y z).trans (ofNat_of_fields hx hy hz)

/-! ### The code of what a field stands for is the field (R94, R98 to R100) -/

/-- The code of an operand: a register's, or 6 for the byte at HL (R94). -/
def operandCode (operand : Option Reg) : BitVec 3 := operand.elim 0b110 Reg.code

theorem operandCode_regOfCode {n : Nat} (hn : n < 8) : n = (operandCode (regOfCode n)).toNat := by
  interval_cases n <;> rfl

theorem code_aluOfCode {n : Nat} (hn : n < 8) : n = (aluOfCode n).code.toNat := by
  interval_cases n <;> rfl

theorem code_rotOfCode {n : Nat} (hn : n < 8) : n = (rotOfCode n).code.toNat := by
  interval_cases n <;> rfl

theorem bits_code3OfCode {n : Nat} (hn : n < 8) : n = (code3OfCode n).bits.toNat := by
  interval_cases n <;> rfl

/-! ### The rows of one field pattern encode to their field codes (R93, R101, R102) -/

theorem encode_ldReg (dst src : Reg) : encode (Row.ldReg dst src) = [0b01#2 ++ dst.code ++ src.code] := by
  cases dst <;> cases src <;> rfl
theorem encode_ldRegAtHl (r : Reg) : encode (Row.ldRegAtHl r) = [0b01#2 ++ r.code ++ 0b110#3] := by
  cases r <;> rfl
theorem encode_ldAtHlReg (r : Reg) : encode (Row.ldAtHlReg r) = [0b01110#5 ++ r.code] := by
  cases r <;> rfl
theorem encode_aluReg (op : AluOp) (r : Reg) : encode (Row.aluReg op r) = [0b10#2 ++ op.code ++ r.code] := by
  cases op <;> cases r <;> rfl
theorem encode_aluAtHl (op : AluOp) : encode (Row.aluAtHl op) = [0b10#2 ++ op.code ++ 0b110#3] := by
  cases op <;> rfl
theorem encode_rotReg (k : RotOp) (r : Reg) : encode (Row.rotReg k r) = [0xCB, 0b00#2 ++ k.code ++ r.code] := by
  cases k <;> cases r <;> rfl
theorem encode_rotMem (k : RotOp) : encode (Row.rotMem k) = [0xCB, 0b00#2 ++ k.code ++ 0b110#3] := by
  cases k <;> rfl
theorem encode_bitReg (b : Code3) (r : Reg) : encode (Row.bitReg b r) = [0xCB, 0b01#2 ++ b.bits ++ r.code] := by
  cases b <;> cases r <;> rfl
theorem encode_bitMem (b : Code3) : encode (Row.bitMem b) = [0xCB, 0b01#2 ++ b.bits ++ 0b110#3] := by
  cases b <;> rfl
theorem encode_resReg (b : Code3) (r : Reg) : encode (Row.resReg b r) = [0xCB, 0b10#2 ++ b.bits ++ r.code] := by
  cases b <;> cases r <;> rfl
theorem encode_resMem (b : Code3) : encode (Row.resMem b) = [0xCB, 0b10#2 ++ b.bits ++ 0b110#3] := by
  cases b <;> rfl
theorem encode_setBitReg (b : Code3) (r : Reg) : encode (Row.setBitReg b r) = [0xCB, 0b11#2 ++ b.bits ++ r.code] := by
  cases b <;> cases r <;> rfl
theorem encode_setBitMem (b : Code3) : encode (Row.setBitMem b) = [0xCB, 0b11#2 ++ b.bits ++ 0b110#3] := by
  cases b <;> rfl

/-! ### What a cell of the maps decodes to encodes to that cell (R101, R102) -/

theorem encode_eq_of_extended {i : Instr} {c op2 : Byte} (h : encode i = [0xCB, c]) (hc : c = op2) :
    encode i = [0xCB, op2] :=
  hc ▸ h

/-- The extended map: every value of the byte after 0xCB is the code of its cell (R102). -/
theorem encode_decodeExtended (op2 : Byte) : encode (decodeExtended op2) = [0xCB, op2] := by
  have hrot := code_rotOfCode (fieldY_lt op2)
  have hbit := bits_code3OfCode (fieldY_lt op2)
  have hz := operandCode_regOfCode (fieldZ_lt op2)
  have hxlt := fieldX_lt op2
  unfold decodeExtended
  generalize regOfCode (fieldZ op2) = operand at hz
  interval_cases hx : fieldX op2
  · rcases operand with _ | r
    · exact encode_eq_of_extended (encode_rotMem _) (append_of_fields hx hrot hz)
    · exact encode_eq_of_extended (encode_rotReg _ r) (append_of_fields hx hrot hz)
  · rcases operand with _ | r
    · exact encode_eq_of_extended (encode_bitMem _) (append_of_fields hx hbit hz)
    · exact encode_eq_of_extended (encode_bitReg _ r) (append_of_fields hx hbit hz)
  · rcases operand with _ | r
    · exact encode_eq_of_extended (encode_resMem _) (append_of_fields hx hbit hz)
    · exact encode_eq_of_extended (encode_resReg _ r) (append_of_fields hx hbit hz)
  · rcases operand with _ | r
    · exact encode_eq_of_extended (encode_setBitMem _) (append_of_fields hx hbit hz)
    · exact encode_eq_of_extended (encode_setBitReg _ r) (append_of_fields hx hbit hz)

/-- The load block: HALT stands where both operands would be the byte at HL (R101, R104). -/
theorem encode_decodeQuadrant1 {op : Byte} (hx : fieldX op = 1) : encode (decodeQuadrant1 op) = [op] := by
  have hy := operandCode_regOfCode (fieldY_lt op)
  have hz := operandCode_regOfCode (fieldZ_lt op)
  unfold decodeQuadrant1
  generalize regOfCode (fieldY op) = target at hy
  generalize regOfCode (fieldZ op) = source at hz
  have hop := congrArg ([·]) (append_of_fields (x := 0b01) hx hy hz)
  rcases target with _ | dst <;> rcases source with _ | src
  case none.none => exact hop
  case none.some => exact (encode_ldAtHlReg src).trans hop
  case some.none => exact (encode_ldRegAtHl dst).trans hop
  case some.some => exact (encode_ldReg dst src).trans hop

/-- The ALU block (R101). -/
theorem encode_decodeQuadrant2 {op : Byte} (hx : fieldX op = 2) : encode (decodeQuadrant2 op) = [op] := by
  have hy := code_aluOfCode (fieldY_lt op)
  have hz := operandCode_regOfCode (fieldZ_lt op)
  unfold decodeQuadrant2
  generalize regOfCode (fieldZ op) = operand at hz
  have hop := congrArg ([·]) (append_of_fields (x := 0b10) hx hy hz)
  rcases operand with _ | r
  case none => exact (encode_aluAtHl _).trans hop
  case some => exact (encode_aluReg _ r).trans hop

/-- A cell with the right opcode and, as its operand, the bytes that follow. -/
theorem cons_opcode_prefix {c op : Byte} {l l' : List Byte} (h : c = op) (hl : l <+: l' := by simp) :
    c :: l <+: op :: l' :=
  List.cons_prefix_cons.2 ⟨h, hl⟩

/-- Quadrant 0 cell by cell: each stands at the opcode that its fields make, and only STOP does not keep the byte that
follows (R101, R104). -/
theorem encode_decodeQuadrant0 {op : Byte} (hop : op ≠ 0x10) (hx : fieldX op = 0) (b1 b2 : Byte) :
    encode (decodeQuadrant0 op b1 (Word.ofBytes b2 b1)) <+: [op, b1, b2] := by
  have hylt := fieldY_lt op
  have hzlt := fieldZ_lt op
  simp only [decodeQuadrant0, fieldP_eq, fieldQ_eq]
  interval_cases hz : fieldZ op
  · interval_cases hy : fieldY op
    pick_goal 3 -- STOP, z = 0 and y = 2
    · exact absurd (ofNat_of_fields hx hy hz).symm hop
    all_goals exact cons_opcode_prefix (ofNat_of_fields hx hy hz)
  all_goals interval_cases hy : fieldY op <;> exact cons_opcode_prefix (ofNat_of_fields hx hy hz)

/-- Quadrant 3 cell by cell, the extended map among them (R101, R103). -/
theorem encode_decodeQuadrant3 {op : Byte} (hx : fieldX op = 3) (b1 b2 : Byte) :
    encode (decodeQuadrant3 op b1 (Word.ofBytes b2 b1)) <+: [op, b1, b2] := by
  have hylt := fieldY_lt op
  have hzlt := fieldZ_lt op
  simp only [decodeQuadrant3, fieldP_eq, fieldQ_eq]
  interval_cases hz : fieldZ op
  pick_goal 4
  · interval_cases hy : fieldY op
    pick_goal 2 -- 0xCB, z = 3 and y = 1
    · exact encode_decodeExtended b1 ▸ cons_opcode_prefix (ofNat_of_fields hx hy hz)
    all_goals exact cons_opcode_prefix (ofNat_of_fields hx hy hz)
  all_goals interval_cases hy : fieldY op <;> exact cons_opcode_prefix (ofNat_of_fields hx hy hz)

/-- What byte 0's cell decodes to encodes to byte 0 and its operand bytes; STOP's second byte is not kept (R104). -/
theorem encode_decodeBytes_prefix {b0 : Byte} (hb0 : b0 ≠ 0x10) (b1 b2 : Byte) :
    encode (decodeBytes b0 b1 b2) <+: [b0, b1, b2] := by
  have hxlt := fieldX_lt b0
  rw [decodeBytes_eq_decodeMap, decodeMap]
  interval_cases hx : fieldX b0
  · exact encode_decodeQuadrant0 hb0 hx b1 b2
  · exact encode_decodeQuadrant1 hx ▸ cons_opcode_prefix rfl
  · exact encode_decodeQuadrant2 hx ▸ cons_opcode_prefix rfl
  · exact encode_decodeQuadrant3 hx b1 b2

/-! ### Byte 0 decides the length (R105) -/

/-- The lemmas of Laws/PerInstr.lean for every instruction at once. -/
theorem encode_length (i : Instr) : (encode i).length = lengthOfOpcode ((encode i).headD 0) := by
  cases i <;> rfl

theorem lengthOfOpcode_cases (b0 : Byte) :
    (lengthOfOpcode b0 = 3 ∧ b0 ∈ opcodesOfLength3) ∨
    (lengthOfOpcode b0 = 2 ∧ b0 ∉ opcodesOfLength3 ∧ b0 ∈ opcodesOfLength2) ∨
    (lengthOfOpcode b0 = 1 ∧ b0 ∉ opcodesOfLength3 ∧ b0 ∉ opcodesOfLength2) := by
  by_cases h3 : b0 ∈ opcodesOfLength3 <;> by_cases h2 : b0 ∈ opcodesOfLength2 <;> simp [lengthOfOpcode, h3, h2]

theorem lengthOfOpcode_eq_three (b0 : Byte) : lengthOfOpcode b0 = 3 ↔ b0 ∈ opcodesOfLength3 := by
  obtain ⟨hlen, h3⟩ | ⟨hlen, h3, -⟩ | ⟨hlen, h3, -⟩ := lengthOfOpcode_cases b0 <;> simp [hlen, h3]

theorem not_mem_opcodesOfLength2_of_mem_3 : ∀ b0 ∈ opcodesOfLength3, b0 ∉ opcodesOfLength2 := by
  decide

theorem lengthOfOpcode_eq_two (b0 : Byte) : lengthOfOpcode b0 = 2 ↔ b0 ∈ opcodesOfLength2 := by
  obtain ⟨hlen, h3⟩ | ⟨hlen, -, h2⟩ | ⟨hlen, -, h2⟩ := lengthOfOpcode_cases b0
  · simp [hlen, not_mem_opcodesOfLength2_of_mem_3 b0 h3]
  · simp [hlen, h2]
  · simp [hlen, h2]

theorem lengthOfOpcode_range (b0 : Byte) : 1 ≤ lengthOfOpcode b0 ∧ lengthOfOpcode b0 ≤ 3 := by
  have := lengthOfOpcode_cases b0
  omega

/-- The decoded instruction's encoding begins with byte 0: it is not empty, for no length is 0. -/
theorem headD_encode_decodeBytes (b0 b1 b2 : Byte) : (encode (decodeBytes b0 b1 b2)).headD 0 = b0 := by
  by_cases hb0 : b0 = 0x10
  · subst hb0
    rfl
  · have hpre := encode_decodeBytes_prefix hb0 b1 b2
    have hlen := encode_length (decodeBytes b0 b1 b2)
    cases he : encode (decodeBytes b0 b1 b2) with
    | nil =>
      rw [he] at hlen
      cases hlen
    | cons c l =>
      rw [he] at hpre
      exact (List.cons_prefix_cons.1 hpre).1

theorem encode_decodeBytes {b0 : Byte} (hb0 : b0 ≠ 0x10) (b1 b2 : Byte) :
    encode (decodeBytes b0 b1 b2) = [b0, b1, b2].take (lengthOfOpcode b0) := by
  have hlen := encode_length (decodeBytes b0 b1 b2)
  rw [headD_encode_decodeBytes] at hlen
  rw [← hlen]
  exact List.prefix_iff_eq_take.1 (encode_decodeBytes_prefix hb0 b1 b2)

/-! ### From the bytes to the instruction and back -/

/-- What decoding answers on bytes that do not begin with STOP's opcode: the instruction of as many bytes as byte 0 says,
and the bytes after these. -/
theorem decode_cases {b0 : Byte} (hb0 : b0 ≠ 0x10) {tail rest : List Byte} {i : Instr}
    (h : decode (b0 :: tail) = .ok (i, rest)) :
    ∃ b1 b2, i = decodeBytes b0 b1 b2 ∧ b0 :: tail = [b0, b1, b2].take (lengthOfOpcode b0) ++ rest := by
  simp only [decode, if_neg hb0] at h
  split at h
  next hlen => cases h; exact ⟨0, 0, rfl, by rw [hlen]; rfl⟩
  next b1 _ hlen => cases h; exact ⟨b1, 0, rfl, by rw [hlen]; rfl⟩
  next b1 b2 _ hlen => cases h; exact ⟨b1, b2, rfl, by rw [hlen]; rfl⟩
  next => cases h

/-- Settles O3: the decoded instruction's encoding is the bytes that decoding took. -/
theorem encodeOfDecode : Obligations.EncodeOfDecode := by
  intro bytes rest i h hi
  cases bytes with
  | nil => cases h
  | cons b0 tail =>
    have hb0 : b0 ≠ 0x10 := by
      rintro rfl
      cases h
      exact hi rfl
    obtain ⟨b1, b2, rfl, htake⟩ := decode_cases hb0 h
    rw [encode_decodeBytes hb0, htake]

/-! ### What byte 0 alone decides (R103, R105) -/

/-- Of three bytes at least, decoding takes as many as byte 0 says. -/
theorem decode_three_bytes (b0 b1 b2 : Byte) (rest : List Byte) :
    decode (b0 :: b1 :: b2 :: rest) =
      .ok (decodeBytes b0 b1 b2, (b0 :: b1 :: b2 :: rest).drop (lengthOfOpcode b0)) := by
  by_cases hb0 : b0 = 0x10
  · subst hb0
    rfl
  · have hle : lengthOfOpcode b0 ≤ [b0, b1, b2].length := (lengthOfOpcode_range b0).2
    have hdec := decodeOfEncode (decodeBytes b0 b1 b2) ([b0, b1, b2].drop (lengthOfOpcode b0) ++ rest)
    rwa [encode_decodeBytes hb0, ← List.append_assoc, List.take_append_drop,
      ← List.drop_append_of_le_length hle] at hdec

theorem wellFormed_eq_not_contains (i : Instr) :
    i.wellFormed = !(Machine.Params.illegal.map Prod.fst).contains ((encode i).headD 0) := by
  cases i <;> rfl

/-- The unrecognized opcodes are those of the parameter ILLEGAL, whatever bytes follow (R103, D14). -/
theorem wellFormed_decodeBytes (b0 b1 b2 : Byte) :
    (decodeBytes b0 b1 b2).wellFormed = false ↔ b0 ∈ Machine.Params.illegal.map Prod.fst := by
  rw [wellFormed_eq_not_contains, headD_encode_decodeBytes, Bool.not_eq_false', List.contains_iff_mem]

/-- Settles O4: the bytes taken are those of the encoding, and ILLEGAL lists the eleven unrecognized values. -/
theorem byteZeroDecides : Obligations.ByteZeroDecides := fun b0 b1 b2 rest =>
  ⟨decode_three_bytes b0 b1 b2 rest, lengthOfOpcode_eq_three b0, lengthOfOpcode_eq_two b0, (lengthOfOpcode_range b0).1,
    (lengthOfOpcode_range b0).2, wellFormed_decodeBytes b0 b1 b2⟩

end Sys2Proof

/-! The 8-bit loads (40_loads8.md R120 to R138). Each writes registers or one byte of memory after its fetch: what such a
write keeps is said once for the fetch, a register write, a store and the end of an instruction, then once for each of the
forms of a load or store. -/

namespace Sys2Proof.Machine

/-! ### What the operations of an instruction keep -/

namespace KeepsRegs

variable {written : List Reg} {s t : State}

theorem fetched (written : List Reg) (s : State) (len : Nat) : KeepsRegs written s (s.fetched len) :=
  fun r _ => State.reg_fetched s len r

theorem setReg (h : KeepsRegs written s t) {r : Reg} (hr : r ∈ written) (v : Byte) :
    KeepsRegs written s (t.setReg r v) := fun q hq => by
  rw [State.reg_setReg_other t (ne_of_mem_of_not_mem hr hq).symm, h q hq]

theorem memWrite (h : KeepsRegs written s t) (k : Word) (v : Byte) : KeepsRegs written s (t.memWrite k v) :=
  fun q hq => (State.reg_memWrite t k v q).trans (h q hq)

theorem setPair (h : KeepsRegs written s t) {p : Pair} (hp : p.regs ⊆ written) (v : Word) :
    KeepsRegs written s (t.setPair p v) := by
  cases p with
  | bc | de | hl =>
    obtain ⟨hhi, hlo⟩ := List.cons_subset.1 hp
    exact (h.setReg hhi _).setReg ((List.cons_subset.1 hlo).1) _
  | sp => exact h

theorem setNumCycles (h : KeepsRegs written s t) (n : Nat) : KeepsRegs written s (t.setNumCycles n) :=
  fun q hq => (State.reg_setNumCycles t n q).trans (h q hq)

end KeepsRegs

/-- An operation that keeps PC, the cost, the control state and the devices. -/
theorem Steps.trans_kept {len cycles : Nat} {s t u : State} (h : Steps len cycles s t) (hpc : u.pc = t.pc)
    (hcost : u.numCycles = t.numCycles) (hcontrol : KeepsControl t u) (hdevices : u.devices = t.devices) :
    Steps len cycles s u where
  pc := hpc.trans h.pc
  numCycles := hcost.trans h.numCycles
  control := ⟨hcontrol.ime.trans h.control.ime, hcontrol.halted.trans h.control.halted,
    hcontrol.fault.trans h.control.fault⟩
  devices := (keepsDevices_iff s u).2 (hdevices.trans ((keepsDevices_iff s t).1 h.devices))

namespace Steps

variable {len cycles : Nat} {s t : State}

/-- The fetch resets the cost (60_exceptions.md R301). -/
theorem fetched (s : State) (len : Nat) : Steps len 0 s (s.fetched len) :=
  ⟨rfl, rfl, ⟨rfl, rfl, rfl⟩, (keepsDevices_iff _ _).2 rfl⟩

theorem setReg (h : Steps len cycles s t) (r : Reg) (v : Byte) : Steps len cycles s (t.setReg r v) :=
  h.trans_kept (t.pc_setReg r v) (t.numCycles_setReg r v) ⟨t.ime_setReg r v, t.halted_setReg r v, t.fault_setReg r v⟩
    ((devices_closed t).setReg t r v rfl)

theorem setPair (h : Steps len cycles s t) (p : Pair) (v : Word) : Steps len cycles s (t.setPair p v) :=
  h.trans_kept (t.pc_setPair p v) (t.numCycles_setPair p v) ⟨t.ime_setPair p v, t.halted_setPair p v, t.fault_setPair p v⟩
    ((devices_closed t).setPair rfl p v)

theorem memWrite (h : Steps len cycles s t) (k : Word) (v : Byte) : Steps len cycles s (t.memWrite k v) :=
  h.trans_kept rfl rfl ⟨rfl, rfl, rfl⟩ rfl

theorem setNumCycles (h : Steps len cycles s t) (n : Nat) : Steps len n s (t.setNumCycles n) :=
  ⟨h.pc, rfl, ⟨h.control.ime, h.control.halted, h.control.fault⟩,
    (keepsDevices_iff _ _).2 ((keepsDevices_iff s t).1 h.devices)⟩

end Steps

namespace StepsPure

variable {len cycles : Nat} {s t : State}

theorem fetched (s : State) (len : Nat) : StepsPure len 0 s (s.fetched len) :=
  ⟨Steps.fetched s len, rfl, State.memRead_fetched s len⟩

theorem setReg (h : StepsPure len cycles s t) (r : Reg) (v : Byte) : StepsPure len cycles s (t.setReg r v) :=
  ⟨h.steps.setReg r v, (t.sp_setReg r v).trans h.sp, fun k => (t.memRead_setReg r v k).trans (h.memory k)⟩

theorem setPair_hl (h : StepsPure len cycles s t) (v : Word) : StepsPure len cycles s (t.setPair .hl v) :=
  (h.setReg .h v.hi).setReg .l v.lo

theorem setNumCycles (h : StepsPure len cycles s t) (n : Nat) : StepsPure len n s (t.setNumCycles n) :=
  ⟨h.steps.setNumCycles n, h.sp, h.memory⟩

end StepsPure

/-- A store to one address leaves the other bytes of memory alone. -/
theorem keepsMemoryBut_memWrite (s : State) (addr : Word) (v : Byte) : KeepsMemoryBut [addr] s (s.memWrite addr v) :=
  fun _ hk => State.memRead_memWrite_other s (List.ne_of_not_mem_cons hk) v

/-! ### The forms of a load or store -/

section
variable {i : Instr} {s : State} {len cycles : Nat}

/-- A load writes its one register. -/
theorem exec_loads_register {r : Reg} {v : Byte} (h : exec i s = ((s.fetched len).setReg r v).done cycles) :
    ∃ t, exec i s = .next t ∧ t.reg r = v ∧ KeepsRegs [r] s t ∧ t.f = s.f ∧ StepsPure len cycles s t := by
  refine ⟨_, h, ?value, ?regs, ?flags, ((StepsPure.fetched s len).setReg r v).setNumCycles cycles⟩
  case value => rw [State.reg_setNumCycles, State.reg_setReg_same]
  case regs => exact ((KeepsRegs.fetched [r] s len).setReg List.mem_cons_self v).setNumCycles cycles
  case flags => rw [State.f_setNumCycles, State.f_setReg, State.f_fetched]

theorem exec_loads_a {addr : Word} (h : exec i s = ldAFrom len cycles addr s) : LoadsA i addr len cycles s :=
  exec_loads_register (r := .a) h

/-- A store writes its one byte of memory. -/
theorem exec_stores_byte {addr : Word} {v : Byte} (h : exec i s = ((s.fetched len).memWrite addr v).done cycles) :
    ∃ t, exec i s = .next t ∧ t.memRead addr = v ∧ KeepsMemoryBut [addr] s t ∧ KeepsRegs [] s t ∧ t.f = s.f ∧
      t.sp = s.sp ∧ Steps len cycles s t :=
  ⟨_, h, State.memRead_memWrite_same _ addr v, keepsMemoryBut_memWrite (s.fetched len) addr v,
    ((KeepsRegs.fetched [] s len).memWrite addr v).setNumCycles cycles, rfl, rfl,
    ((Steps.fetched s len).memWrite addr v).setNumCycles cycles⟩

/-- A is loaded from the address that HL held before the step. -/
theorem exec_loads_stepping {delta : Word} (h : exec i s = ldAStep delta s) : LoadsAStepping i (s.hl + delta) s := by
  have hregs := (KeepsRegs.fetched [.a, .h, .l] s 1).setReg List.mem_cons_self s.atHl
  exact ⟨_, h, rfl, State.pair_setPair_same ((s.fetched 1).setReg .a s.atHl) .hl _,
    (hregs.setPair (List.subset_cons_self _ _) _).setNumCycles _, rfl,
    (((StepsPure.fetched s 1).setReg .a _).setPair_hl _).setNumCycles _⟩

/-- A is stored to the address that HL held before the step. -/
theorem exec_stores_stepping {delta : Word} (h : exec i s = ldStepA delta s) : StoresAStepping i (s.hl + delta) s := by
  have hnext : exec i s =
      .next ((((s.fetched 1).memWrite s.hl s.a).setPair .hl (s.hl + delta)).setNumCycles 8) := h
  have hregs := (KeepsRegs.fetched Pair.hl.regs s 1).memWrite s.hl s.a
  refine ⟨_, hnext, ?value, ?memory, State.pair_setPair_same ((s.fetched 1).memWrite s.hl s.a) .hl _,
    (hregs.setPair (List.Subset.refl _) _).setNumCycles _, ?flags, ?sp,
    (((Steps.fetched s 1).memWrite s.hl s.a).setPair .hl _).setNumCycles _⟩
  case value => rw [State.memRead_setNumCycles, State.memRead_setPair]; exact State.memRead_memWrite_same _ s.hl s.a
  case memory =>
    intro k hk
    rw [State.memRead_setNumCycles, State.memRead_setPair]
    exact keepsMemoryBut_memWrite (s.fetched 1) s.hl s.a k hk
  case flags | sp => simp

end

/-! ### The obligations -/

theorem encode_ldRegImm (r : Reg) (n : Byte) : encode (Row.ldRegImm r n) = [0b00#2 ++ r.code ++ 0b110#3, n] := by
  cases r <;> rfl

/-- Settles O7: each of the three forms writes the register `r` alone. -/
theorem loadRegister : Obligations.LoadRegister := fun r src n s =>
  ⟨encode_ldReg r src, encode_ldRegImm r n, encode_ldRegAtHl r, exec_loads_register (exec_ldReg s r src),
    exec_loads_register (exec_ldRegImm s r n), exec_loads_register (exec_ldRegAtHl s r)⟩

/-- Settles O8: each form stores one byte, at HL. -/
theorem storeAtHl : Obligations.StoreAtHl := fun r _ s =>
  ⟨encode_ldAtHlReg r, rfl, exec_stores_byte (exec_ldAtHlReg s r), exec_stores_byte rfl⟩

theorem highPage_eq_add (n : Byte) : highPage n = 0xFF00 + BitVec.ofNat 16 n.toNat := by
  rw [highPage, BitVec.ofNat_toNat]

/-- The high page is the 256 addresses whose high byte is 0xFF (30_encoding.md R100). -/
theorem highPage_eq_ofBytes (n : Byte) : highPage n = Word.ofBytes 0xFF n := by
  have hhigh : (0xFF : Byte).toNat <<< 8 = 0xFF00 := rfl
  apply BitVec.eq_of_toNat_eq
  rw [highPage, Word.ofBytes, BitVec.toNat_append, ← Nat.shiftLeft_add_eq_or_of_lt n.isLt, hhigh]
  bv_omega

/-- Settles O10: each form stores A, at its own address. -/
theorem storeAccumulator : Obligations.StoreAccumulator := fun n _ _ =>
  ⟨⟨rfl, rfl, rfl, rfl, rfl⟩, highPage_eq_add n, exec_stores_byte rfl, exec_stores_byte rfl, exec_stores_byte rfl,
    exec_stores_byte rfl, exec_stores_byte rfl⟩

/-- Settles O11: the forms that step down add -1 to HL. -/
theorem loadStoreStepping : Obligations.LoadStoreStepping := by
  intro s
  rw [sub_eq_add_neg s.hl 1]
  exact ⟨⟨rfl, rfl, rfl, rfl⟩, exec_loads_stepping rfl, exec_stores_stepping rfl, exec_loads_stepping rfl,
    exec_stores_stepping rfl⟩

/-- Settles O9: each form loads A, from its own address. -/
theorem loadAccumulator : Obligations.LoadAccumulator := by
  intro n nn s
  rw [← highPage_eq_ofBytes, ← highPage_eq_ofBytes]
  exact ⟨⟨rfl, rfl, rfl, rfl, rfl⟩, exec_loads_a rfl, exec_loads_a rfl, exec_loads_a rfl, exec_loads_a rfl,
    exec_loads_a rfl⟩

end Sys2Proof.Machine

/-! The 16-bit loads and the stack (41_loads16_stack.md R140 to R145), and ADD SP,e (43_alu16.md R193), which shares its
addition with LD HL,SP+e. First what a write of SP, of F, of a stack pair or of a word keeps, beside the writes of the 8-bit
loads; then what a push and a pop do, whatever instruction they serve; then the obligations. -/

namespace Sys2Proof.Machine

/-! ### What the operations of an instruction keep -/

namespace KeepsRegs

variable {written : List Reg} {s t : State}

theorem setSp (h : KeepsRegs written s t) (v : Word) : KeepsRegs written s (t.setSp v) :=
  fun q hq => (State.reg_setSp t v q).trans (h q hq)

theorem setF (h : KeepsRegs written s t) (v : Byte) : KeepsRegs written s (t.setF v) :=
  fun q hq => (State.reg_setF t v q).trans (h q hq)

theorem setStackPair (h : KeepsRegs written s t) {p : StackPair} (hp : p.regs ⊆ written) (v : Word) :
    KeepsRegs written s (t.setStackPair p v) := by
  cases p with
  | bc => exact h.setPair (p := .bc) hp v
  | de => exact h.setPair (p := .de) hp v
  | hl => exact h.setPair (p := .hl) hp v
  | af => exact (h.setReg (hp List.mem_cons_self) v.hi).setF _

theorem memWrite16 (h : KeepsRegs written s t) (k v : Word) : KeepsRegs written s (t.memWrite16 k v) :=
  (h.memWrite k v.lo).memWrite (k + 1) v.hi

theorem push16 (h : KeepsRegs written s t) (v : Word) : KeepsRegs written s (t.push16 v) :=
  (((h.setSp _).memWrite _ v.hi).setSp _).memWrite _ v.lo

end KeepsRegs

namespace Steps

variable {len cycles : Nat} {s t : State}

theorem setSp (h : Steps len cycles s t) (v : Word) : Steps len cycles s (t.setSp v) :=
  h.trans_kept rfl rfl ⟨rfl, rfl, rfl⟩ rfl

theorem setF (h : Steps len cycles s t) (v : Byte) : Steps len cycles s (t.setF v) :=
  h.trans_kept rfl rfl ⟨rfl, rfl, rfl⟩ rfl

theorem setStackPair (h : Steps len cycles s t) (p : StackPair) (v : Word) : Steps len cycles s (t.setStackPair p v) := by
  cases p with
  | bc | de | hl => rw [State.setStackPair]; exact h.setPair _ v
  | af => exact (h.setReg .a v.hi).setF _

theorem memWrite16 (h : Steps len cycles s t) (k v : Word) : Steps len cycles s (t.memWrite16 k v) :=
  (h.memWrite k v.lo).memWrite (k + 1) v.hi

theorem push16 (h : Steps len cycles s t) (v : Word) : Steps len cycles s (t.push16 v) :=
  (((h.setSp _).memWrite _ v.hi).setSp _).memWrite _ v.lo

end Steps

theorem StepsPure.setF {len cycles : Nat} {s t : State} (h : StepsPure len cycles s t) (v : Byte) :
    StepsPure len cycles s (t.setF v) :=
  ⟨h.steps.setF v, h.sp, h.memory⟩

/-! ### Pairs -/

theorem State.sp_setPair_of_ne (s : State) {p : Pair} (hp : p ≠ .sp) (v : Word) : (s.setPair p v).sp = s.sp := by
  cases p with
  | bc | de | hl => rfl
  | sp => contradiction

theorem State.stackPair_setStackPair_of_ne (s : State) {p : StackPair} (hp : p ≠ .af) (v : Word) :
    (s.setStackPair p v).stackPair p = v := by
  cases p with
  | bc | de | hl => rw [State.setStackPair, State.stackPair]; exact State.pair_setPair_same s _ v
  | af => contradiction

theorem State.f_setStackPair_of_ne (s : State) {p : StackPair} (hp : p ≠ .af) (v : Word) :
    (s.setStackPair p v).f = s.f := by
  cases p with
  | bc | de | hl => rfl
  | af => contradiction

/-! ### A stored word, a pushed word and a popped one -/

/-- The low byte survives the store of the high byte, for the two addresses differ even where they wrap. -/
theorem State.memRead_memWrite16_low (s : State) (k v : Word) : (s.memWrite16 k v).memRead k = v.lo := by
  have hne : k ≠ k + 1 := by bv_omega
  rw [State.memRead_memWrite16, if_neg hne, if_pos rfl]

theorem State.memRead_memWrite16_high (s : State) (k v : Word) : (s.memWrite16 k v).memRead (k + 1) = v.hi :=
  State.memRead_memWrite_same _ (k + 1) v.hi

theorem pushed_push16 (s : State) (v : Word) : Pushed v s (s.push16 v) where
  sp := State.sp_push16 s v
  high := by
    have hne : s.sp - 1 ≠ s.sp - 2 := by bv_omega
    rw [State.memRead_push16, if_neg hne, if_pos rfl]
  low := by rw [State.memRead_push16, if_pos rfl]
  memory _ hk := State.memRead_push16_other s hk v

/-- The fetch moves neither SP nor memory, so a push after it is a push from before it. -/
theorem Pushed.of_fetched {v : Word} {s t : State} {len : Nat} (h : Pushed v (s.fetched len) t) : Pushed v s t :=
  ⟨h.sp, h.high, h.low, h.memory⟩

theorem Pushed.setNumCycles {v : Word} {s t : State} (h : Pushed v s t) (n : Nat) : Pushed v s (t.setNumCycles n) :=
  ⟨h.sp, h.high, h.low, h.memory⟩

theorem popped_fetched_dropTop (s : State) (len : Nat) : Popped s (s.fetched len).dropTop :=
  ⟨rfl, State.memRead_fetched s len⟩

theorem Popped.setStackPair {s t : State} (h : Popped s t) (p : StackPair) (v : Word) : Popped s (t.setStackPair p v) :=
  ⟨(State.sp_setStackPair t p v).trans h.sp, fun k => (State.memRead_setStackPair t p v k).trans (h.memory k)⟩

theorem Popped.setNumCycles {s t : State} (h : Popped s t) (n : Nat) : Popped s (t.setNumCycles n) :=
  ⟨h.sp, h.memory⟩

/-! ### The forms of a 16-bit load -/

section
variable {i : Instr} {s : State} {len cycles : Nat}

/-- A load of a pair or of SP writes it alone. -/
theorem exec_loads_pair {p : Pair} {v : Word} (h : exec i s = ((s.fetched len).setPair p v).done cycles) :
    ∃ t, exec i s = .next t ∧ t.pair p = v ∧ KeepsRegs p.regs s t ∧ (p ≠ .sp → t.sp = s.sp) ∧ t.f = s.f ∧
      KeepsMemory s t ∧ Steps len cycles s t :=
  ⟨_, h, State.pair_setPair_same (s.fetched len) p v,
    ((KeepsRegs.fetched p.regs s len).setPair (List.Subset.refl _) v).setNumCycles cycles,
    fun hp => State.sp_setPair_of_ne (s.fetched len) hp v, State.f_setPair (s.fetched len) p v,
    State.memRead_setPair (s.fetched len) p v, ((Steps.fetched s len).setPair p v).setNumCycles cycles⟩

/-- A store of a word writes its two bytes of memory alone. -/
theorem exec_stores_word {addr v : Word} (h : exec i s = ((s.fetched len).memWrite16 addr v).done cycles) :
    ∃ t, exec i s = .next t ∧ t.memRead addr = v.lo ∧ t.memRead (addr + 1) = v.hi ∧ KeepsMemoryBut [addr, addr + 1] s t ∧
      KeepsRegs [] s t ∧ t.f = s.f ∧ t.sp = s.sp ∧ Steps len cycles s t :=
  ⟨_, h, State.memRead_memWrite16_low (s.fetched len) addr v, State.memRead_memWrite16_high (s.fetched len) addr v,
    fun _ hk => State.memRead_memWrite16_other (s.fetched len) hk v,
    ((KeepsRegs.fetched [] s len).memWrite16 addr v).setNumCycles cycles,
    State.f_memWrite16 (s.fetched len) addr v, State.sp_memWrite16 (s.fetched len) addr v,
    ((Steps.fetched s len).memWrite16 addr v).setNumCycles cycles⟩

/-- A push writes SP and the two bytes below it alone. -/
theorem exec_pushes {v : Word} (h : exec i s = ((s.fetched len).push16 v).done cycles) :
    ∃ t, exec i s = .next t ∧ Pushed v s t ∧ KeepsRegs [] s t ∧ t.f = s.f ∧ Steps len cycles s t :=
  ⟨_, h, (pushed_push16 (s.fetched len) v).of_fetched.setNumCycles cycles,
    ((KeepsRegs.fetched [] s len).push16 v).setNumCycles cycles,
    State.f_push16 (s.fetched len) v, ((Steps.fetched s len).push16 v).setNumCycles cycles⟩

end

/-! ### SP plus a signed offset -/

/-- Both rules take their result and all four flags from the one addition of R194. -/
theorem spPlus_addSpE {s : State} {e : Byte} {res : Word} (hres : res = (addSpE s.sp e).res) (t : State)
    (cycles : Nat) :
    SpPlus e res s ((t.setFlags false false (addSpE s.sp e).h (addSpE s.sp e).c).setNumCycles cycles) :=
  ⟨hres ▸ addSpE_res s.sp e, flagsAre_done t cycles rfl rfl rfl rfl⟩

/-! ### The obligations -/

theorem encode_ldPairWord (p : Pair) (nn : Word) :
    encode (Row.ldPairWord p nn) = [0b00#2 ++ p.code ++ 0b0001#4, nn.lo, nn.hi] := by
  cases p <;> rfl

theorem encode_pushPair (p : StackPair) : encode (Row.pushPair p) = [0b11#2 ++ p.code ++ 0b0101#4] := by
  cases p <;> rfl

theorem encode_popPair (p : StackPair) : encode (Row.popPair p) = [0b11#2 ++ p.code ++ 0b0001#4] := by
  cases p <;> rfl

/-- Settles O12: LD SP,HL is the load of the pair SP, which is made of no register. -/
theorem loadPair : Obligations.LoadPair := by
  intro p nn s
  refine ⟨encode_ldPairWord p nn, rfl, exec_loads_pair (exec_ldPairWord s p nn), ?_⟩
  obtain ⟨t, hnext, hsp, hregs, -, hflags, hmemory, hsteps⟩ :=
    exec_loads_pair (i := .ldSpHl) (s := s) (len := 1) (cycles := 8) (p := .sp) (v := s.hl) rfl
  exact ⟨t, hnext, hsp, hregs, hflags, hmemory, hsteps⟩

/-- Settles O13: the word stored is SP. -/
theorem storeStackPointer : Obligations.StoreStackPointer := fun _ _ => ⟨rfl, exec_stores_word rfl⟩

/-- Settles O14: the word pushed is the pair, AF with F as its low byte. -/
theorem pushRegisterPair : Obligations.PushRegisterPair := fun p s =>
  ⟨encode_pushPair p, rfl, rfl, rfl, rfl, exec_pushes (exec_pushPair s p)⟩

/-- Settles O15: the pop moves SP, then writes the pair; of the four pairs AF alone writes F. -/
theorem popRegisterPair : Obligations.PopRegisterPair := by
  intro p s
  refine ⟨encode_popPair p, _, exec_popPair s p, ((popped_fetched_dropTop s 1).setStackPair p _).setNumCycles _,
    (((KeepsRegs.fetched p.regs s 1).setSp _).setStackPair (List.Subset.refl _) _).setNumCycles _,
    (((Steps.fetched s 1).setSp _).setStackPair p _).setNumCycles _, ?other, ?af⟩
  case other =>
    intro hp
    exact ⟨State.stackPair_setStackPair_of_ne _ hp s.stackTop, State.f_setStackPair_of_ne _ hp s.stackTop⟩
  case af =>
    rintro rfl
    exact ⟨rfl, rfl⟩

/-- Settles O16: the two rules differ in where the sum goes, HL or SP. -/
theorem stackPointerPlusOffset : Obligations.StackPointerPlusOffset := by
  intro e s
  refine ⟨rfl, rfl, ⟨_, rfl, ?hlSum, ?hlRegs, ?hlRest⟩, ⟨_, rfl, ?spSum, ?spRegs, ?spMemory, ?spRest⟩⟩
  case hlSum => exact spPlus_addSpE (State.pair_setPair_same (s.fetched 2) .hl _) _ _
  case hlRegs =>
    exact (((KeepsRegs.fetched Pair.hl.regs s 2).setPair (List.Subset.refl _) _).setF _).setNumCycles _
  case hlRest => exact (((StepsPure.fetched s 2).setPair_hl _).setF _).setNumCycles _
  case spSum => exact spPlus_addSpE rfl _ _
  case spRegs => exact (((KeepsRegs.fetched [] s 2).setSp _).setF _).setNumCycles _
  case spMemory => exact State.memRead_fetched s 2
  case spRest => exact (((Steps.fetched s 2).setSp _).setF _).setNumCycles _

end Sys2Proof.Machine

/-! 8-bit arithmetic and logic (42_alu8.md R150 to R183). Each of these instructions writes F, and beside it at most one
register or one byte of memory: that is said once for the three kinds of write, then the operations of the ALU are read in
plain arithmetic, for all three operand forms at once. -/

namespace Sys2Proof.Machine

/-! ### Instructions that write the flags -/

section
variable {i : Instr} {s : State} {len cycles : Nat} {z n h c : Bool}

/-- An instruction that writes F alone. -/
theorem exec_writes_flags (hexec : exec i s = ((s.fetched len).setFlags z n h c).done cycles) :
    ∃ t, exec i s = .next t ∧ FlagsAre t z n h c ∧ KeepsRegs [] s t ∧ StepsPure len cycles s t :=
  ⟨_, hexec, flagsAre_done _ cycles rfl rfl rfl rfl, ((KeepsRegs.fetched [] s len).setF _).setNumCycles cycles,
    ((StepsPure.fetched s len).setF _).setNumCycles cycles⟩

/-- An instruction that writes one register and F. -/
theorem exec_writes_register_and_flags {r : Reg} {v : Byte}
    (hexec : exec i s = (((s.fetched len).setReg r v).setFlags z n h c).done cycles) :
    ∃ t, exec i s = .next t ∧ t.reg r = v ∧ FlagsAre t z n h c ∧ KeepsRegs [r] s t ∧ StepsPure len cycles s t := by
  refine ⟨_, hexec, ?value, flagsAre_done _ cycles rfl rfl rfl rfl, ?regs,
    (((StepsPure.fetched s len).setReg r v).setF _).setNumCycles cycles⟩
  case value => rw [State.reg_setNumCycles, State.reg_setFlags, State.reg_setReg_same]
  case regs => exact (((KeepsRegs.fetched [r] s len).setReg List.mem_cons_self v).setF _).setNumCycles cycles

/-- An instruction that writes one byte of memory and F. -/
theorem exec_writes_byte_and_flags {addr : Word} {v : Byte}
    (hexec : exec i s = (((s.fetched len).memWrite addr v).setFlags z n h c).done cycles) :
    ∃ t, exec i s = .next t ∧ t.memRead addr = v ∧ FlagsAre t z n h c ∧ KeepsMemoryBut [addr] s t ∧ KeepsRegs [] s t ∧
      t.sp = s.sp ∧ Steps len cycles s t :=
  ⟨_, hexec, State.memRead_memWrite_same _ addr v, flagsAre_done _ cycles rfl rfl rfl rfl,
    keepsMemoryBut_memWrite (s.fetched len) addr v,
    (((KeepsRegs.fetched [] s len).memWrite addr v).setF _).setNumCycles cycles, rfl,
    (((Steps.fetched s len).memWrite addr v).setF _).setNumCycles cycles⟩

end

/-! ### The operations of the ALU in plain arithmetic -/

section
variable {i : Instr} {s : State} {len cycles : Nat} {x : Byte}

/-- What Add8 answers is the sum and its flags (R182). -/
theorem exec_writes_add8 {cin : Bool}
    (hexec : exec i s = (((s.fetched len).setReg .a (add8 s.a x cin).res).setFlags (add8 s.a x cin).z false
      (add8 s.a x cin).h (add8 s.a x cin).c).done cycles) :
    ∃ t, exec i s = .next t ∧ AddOutcome x cin len cycles s t := by
  obtain ⟨t, hnext, hres : t.a = _, hflags, hregs, hrest⟩ := exec_writes_register_and_flags hexec
  refine ⟨t, hnext, ?a, ?flags, hregs, hrest⟩
  case a => rw [hres, add8_res]
  case flags => rw [hres]; exact hflags

/-- ADD has no carry in, ADC the old C. -/
theorem exec_adds {op : AluOp} (hop : op = .add ∨ op = .adc) (hexec : exec i s = ((s.fetched len).alu op x).done cycles) :
    ∃ t, exec i s = .next t ∧ AddOutcome x (decide (op = .adc) && s.f.getLsbD 4) len cycles s t := by
  obtain rfl | rfl := hop
  · exact exec_writes_add8 (cin := false) hexec
  · exact exec_writes_add8 (cin := s.flagC) hexec

/-- The flags of Sub8 are those of the subtraction (R183). -/
theorem subFlags_of_sub8 {t : State} {cin : Bool}
    (h : FlagsAre t (sub8 s.a x cin).z true (sub8 s.a x cin).h (sub8 s.a x cin).c) :
    SubFlags x cin (sub8 s.a x cin).res s t := by
  rw [sub8_h, sub8_c] at h
  exact h

/-- What Sub8 answers is the difference and its flags (R183). -/
theorem exec_writes_sub8 {cin : Bool}
    (hexec : exec i s = (((s.fetched len).setReg .a (sub8 s.a x cin).res).setFlags (sub8 s.a x cin).z true
      (sub8 s.a x cin).h (sub8 s.a x cin).c).done cycles) :
    ∃ t, exec i s = .next t ∧ SubOutcome x cin len cycles s t := by
  obtain ⟨t, hnext, hres : t.a = _, hflags, hregs, hrest⟩ := exec_writes_register_and_flags hexec
  refine ⟨t, hnext, ?a, ?flags, hregs, hrest⟩
  case a => rw [hres, sub8_res]
  case flags => rw [hres]; exact subFlags_of_sub8 hflags

/-- SUB has no borrow in, SBC the old C. -/
theorem exec_subtracts {op : AluOp} (hop : op = .sub ∨ op = .sbc)
    (hexec : exec i s = ((s.fetched len).alu op x).done cycles) :
    ∃ t, exec i s = .next t ∧ SubOutcome x (decide (op = .sbc) && s.f.getLsbD 4) len cycles s t := by
  obtain rfl | rfl := hop
  · exact exec_writes_sub8 (cin := false) hexec
  · exact exec_writes_sub8 (cin := s.flagC) hexec

/-- CP writes the flags of SUB and not A (R171). -/
theorem exec_compares (hexec : exec i s = ((s.fetched len).alu .cp x).done cycles) :
    ∃ t, exec i s = .next t ∧ CompareOutcome x len cycles s t := by
  obtain ⟨t, hnext, hflags, hregs, hrest⟩ := exec_writes_flags hexec
  refine ⟨t, hnext, ?flags, hregs, hrest⟩
  rw [← sub8_res_sub]
  exact subFlags_of_sub8 hflags

/-- A logic operation writes its value to A and the value's zero test to Z (section 4). -/
theorem exec_writes_logic {op : AluOp} {v : Byte} {half : Bool} (hvalue : LogicValue op s.a x v)
    (hexec : exec i s = (((s.fetched len).setReg .a v).setFlags (v == 0) false half false).done cycles) :
    ∃ t v, exec i s = .next t ∧ LogicValue op s.a x v ∧ LogicOutcome v half len cycles s t := by
  obtain ⟨t, hnext, hres, hflags, hregs, hrest⟩ := exec_writes_register_and_flags hexec
  exact ⟨t, v, hnext, hvalue, hres, hflags, hregs, hrest⟩

/-- AND, XOR and OR act on the bits one by one; AND alone sets H. -/
theorem exec_logic {op : AluOp} (hop : op = .and ∨ op = .xor ∨ op = .or)
    (hexec : exec i s = ((s.fetched len).alu op x).done cycles) :
    ∃ t v, exec i s = .next t ∧ LogicValue op s.a x v ∧ LogicOutcome v (decide (op = .and)) len cycles s t := by
  obtain rfl | rfl | rfl := hop
  · exact exec_writes_logic (fun _ => BitVec.getLsbD_and) hexec
  · exact exec_writes_logic (fun _ => BitVec.getLsbD_xor) hexec
  · exact exec_writes_logic (fun _ => BitVec.getLsbD_or) hexec

end

theorem encode_aluImm (op : AluOp) (n : Byte) : encode (Row.aluImm op n) = [0b11#2 ++ op.code ++ 0b110#3, n] := by
  cases op <;> rfl

/-- A register, the byte at HL and an immediate are operands of one operation: what holds of it for every operand, length
and cost holds of the three forms (30_encoding.md R98). -/
theorem alu_forms {op : AluOp} {s : State} {P : Instr → Byte → Nat → Nat → Prop}
    (h : ∀ {i x len cycles}, exec i s = ((s.fetched len).alu op x).done cycles → P i x len cycles) (r : Reg) (n : Byte) :
    AluEncoding op r n ∧ P (Row.aluReg op r) (s.reg r) 1 4 ∧
      P (Row.aluAtHl op) (s.memRead (Word.ofBytes s.h s.l)) 1 8 ∧ P (Row.aluImm op n) n 2 8 :=
  ⟨⟨encode_aluReg op r, encode_aluAtHl op, encode_aluImm op n⟩, h (exec_aluReg s op r), h (exec_aluAtHl s op),
    h (exec_aluImm s op n)⟩

/-! ### INC and DEC of a byte -/

theorem encode_incReg (r : Reg) : encode (Row.incReg r) = [0b00#2 ++ r.code ++ 0b100#3] := by
  cases r <;> rfl

theorem encode_decReg (r : Reg) : encode (Row.decReg r) = [0b00#2 ++ r.code ++ 0b101#3] := by
  cases r <;> rfl

/-- INC packs Z, N and H of the increment and the old C (R174). -/
theorem incFlags_of_flagsAre {s t : State} {v : Byte}
    (h : FlagsAre t (v + 1 == 0) false (decide (v.toNat % 16 = 15)) s.flagC) : IncFlags v (v + 1) s t :=
  ⟨BitVec.toNat_add v 1, h⟩

/-- DEC packs Z, N and H of the decrement and the old C (R176). -/
theorem decFlags_of_flagsAre {s t : State} {v : Byte}
    (h : FlagsAre t (v - 1 == 0) true (decide (v.toNat % 16 = 0)) s.flagC) : DecFlags v (v - 1) s t :=
  ⟨by rw [BitVec.toNat_sub, Nat.add_comm]; rfl, h⟩

/-- No register write between the fetch and the flags touches C. -/
theorem flagC_fetched_setReg (s : State) (len : Nat) (r : Reg) (v : Byte) :
    ((s.fetched len).setReg r v).flagC = s.flagC := by
  rw [State.flagC_setReg, State.flagC_fetched]

/-! ### DAA -/

/-- A byte made of an unbounded integer is that integer modulo 2^8. -/
theorem toNat_byte_ofInt (x : Int) : ((BitVec.ofInt 8 x).toNat : Int) = x % 256 := by
  rw [BitVec.toNat_ofInt]
  exact Int.toNat_of_nonneg (Int.emod_nonneg x (by decide))

/-- The corrections are added after an addition and subtracted after a subtraction; the nibbles count after an addition
only (R178). -/
theorem daaValue_eq (a : Byte) (n h c : Bool) :
    daaValue a n h c =
      let correction : Int := (if daaCarry a n c then 0x60 else 0) +
        (if h || (!n && decide (a.toNat % 16 > 9)) then 0x06 else 0)
      if n then a.toNat - correction else a.toNat + correction := by
  cases n with
  | false => simp [daaValue, daaCarry, Int.add_assoc]
  | true => simp [daaValue, daaCarry, Int.sub_sub]

/-- A byte of two packed decimal digits. -/
theorem toNat_digits {x1 x0 : Nat} (hx1 : x1 < 10) (hx0 : x0 < 10) :
    (BitVec.ofNat 8 (16 * x1 + x0)).toNat = 16 * x1 + x0 :=
  Nat.mod_eq_of_lt (by omega)

theorem mod_hundred_div_ten {m : Nat} (hm : m < 200) : m % 100 / 10 = if m ≥ 100 then m / 10 - 10 else m / 10 := by
  split <;> omega

/-- The sum of two packed decimals whose tens add to `p` and units to `q` is `a` before the corrections and `b` after them.
A half carry or a low nibble above 9 says that the units reach 10, a carry or a byte above 0x99 that the sum reaches 100;
each correction skips the six codes of a nibble that are no digit (R178). -/
theorem decimal_sum_corrected {p q a b : Nat} {high low : Bool} (hp : p ≤ 18) (hq : q ≤ 18)
    (ha : a = (16 * p + q) % 256) (hhigh : high ↔ 16 * p + q > 0xFF ∨ a > 0x99) (hlow : low ↔ q > 0xF ∨ a % 16 > 9)
    (hb : b = (a + ((if high then 0x60 else 0) + (if low then 0x06 else 0))) % 256) :
    b = 16 * ((10 * p + q) % 100 / 10) + (10 * p + q) % 10 ∧ high = decide (10 * p + q ≥ 100) := by
  have hunits : low ↔ q ≥ 10 := by
    rw [hlow, ha]
    omega
  have hhundred : high ↔ 10 * p + q ≥ 100 := by
    rw [hhigh, ha]
    omega
  refine ⟨?_, Bool.eq_iff_iff.2 (by rw [hhundred, decide_eq_true_iff])⟩
  have htens : (10 * p + q) / 10 = p + q / 10 := by omega
  have hunit : (10 * p + q) % 10 = q % 10 := by omega
  rw [hb, ha, Nat.mod_add_mod, mod_hundred_div_ten (by omega), htens, hunit]
  simp only [hhundred, hunits]
  split <;> split <;> omega

/-! ### CPL -/

theorem toNat_xor_ff (v : Byte) : (v ^^^ 0xFF).toNat = 255 - v.toNat :=
  (congrArg BitVec.toNat BitVec.xor_allOnes).trans BitVec.toNat_not

end Sys2Proof.Machine

namespace Sys2Proof

open Machine

/-! ### The obligations -/

/-- Settles O17: the three forms are one addition. -/
theorem addAndAdc : Obligations.AddAndAdc := fun _ r n _ hop => alu_forms (exec_adds hop) r n

/-- Settles O18: the three forms are one subtraction. -/
theorem subAndSbc : Obligations.SubAndSbc := fun _ r n _ hop => alu_forms (exec_subtracts hop) r n

/-- Settles O19: the three forms are one comparison. -/
theorem compare : Obligations.Compare := fun r n _ => alu_forms exec_compares r n

/-- Settles O20: the three forms of each operation are one operation. -/
theorem logic : Obligations.Logic := fun _ r n _ hop => alu_forms (exec_logic hop) r n

/-- Settles O21: the new register is the increment or decrement of the old one. -/
theorem incDecRegister : Obligations.IncDecRegister := by
  intro r s
  refine ⟨encode_incReg r, encode_decReg r, ?inc, ?dec⟩
  case inc =>
    obtain ⟨t, hnext, hres, hflags, hrest⟩ := exec_writes_register_and_flags (exec_incReg s r)
    rw [flagC_fetched_setReg] at hflags
    exact ⟨t, hnext, hres ▸ incFlags_of_flagsAre hflags, hrest⟩
  case dec =>
    obtain ⟨t, hnext, hres, hflags, hrest⟩ := exec_writes_register_and_flags (exec_decReg s r)
    rw [flagC_fetched_setReg] at hflags
    exact ⟨t, hnext, hres ▸ decFlags_of_flagsAre hflags, hrest⟩

/-- Settles O22: the new byte at HL is the increment or decrement of the old one. -/
theorem incDecAtHl : Obligations.IncDecAtHl := by
  intro s
  refine ⟨rfl, rfl, ?inc, ?dec⟩
  case inc =>
    obtain ⟨t, hnext, hres, hflags, hrest⟩ := exec_writes_byte_and_flags (i := .incAtHl) (s := s) rfl
    exact ⟨t, hnext, hres ▸ incFlags_of_flagsAre hflags, hrest⟩
  case dec =>
    obtain ⟨t, hnext, hres, hflags, hrest⟩ := exec_writes_byte_and_flags (i := .decAtHl) (s := s) rfl
    exact ⟨t, hnext, hres ▸ decFlags_of_flagsAre hflags, hrest⟩

/-- Settles O23: A becomes the corrected integer modulo 2^8, and C says whether 0x60 was among the corrections. -/
theorem decimalAdjust : Obligations.DecimalAdjust := by
  intro s n high low correction
  obtain ⟨t, hnext, hres : t.a = _, hflags, hrest⟩ := exec_writes_register_and_flags (i := .daa) (s := s) rfl
  refine ⟨rfl, t, hnext, ?a, ?flags, hrest⟩
  case a => rw [hres, toNat_byte_ofInt, daaValue_eq]; rfl
  case flags => rw [hres]; exact hflags

/-- Settles O24: O17 says what ADD leaves, N clear among it, and O23 what DAA makes of that. -/
theorem daaAfterAddIsDecimal : Obligations.DaaAfterAddIsDecimal := by
  intro s t u x1 x0 y1 y0 hx1 hx0 hy1 hy0 hs ht hu
  obtain ⟨-, -, -, _, ht', hadd, ⟨-, hN, hH, hC, -⟩, -, -⟩ :=
    addAndAdc .add .b (BitVec.ofNat 8 (16 * y1 + y0)) s (.inl rfl)
  cases ht'.symm.trans ht
  obtain ⟨-, _, hu', hdaa, ⟨-, -, -, hcarry, -⟩, -, -⟩ := decimalAdjust t
  cases hu'.symm.trans hu
  simp only [hN, Bool.not_false, Bool.true_and, Bool.false_eq_true, if_false] at hdaa hcarry
  simp only [hs, toNat_digits, hx1, hx0, hy1, hy0, reduceCtorEq, decide_false, Bool.false_and, Bool.toNat_false]
    at hadd hH hC
  have hdigits : 10 * x1 + x0 + (10 * y1 + y0) = 10 * (x1 + y1) + (x0 + y0) := by omega
  rw [hdigits, hcarry]
  refine decimal_sum_corrected (low := t.f.getLsbD 5 || decide (t.a.toNat % 16 > 9)) (by omega) (by omega) ?sum ?high ?low
    (by exact_mod_cast hdaa)
  case sum => rw [hadd]; omega
  case high | low =>
    simp only [hC, hH, Bool.or_eq_true, decide_eq_true_iff]
    omega

/-- Settles O25: CPL writes A and F, SCF and CCF write F alone. -/
theorem complementAndCarry : Obligations.ComplementAndCarry := by
  intro s
  refine ⟨⟨rfl, rfl, rfl⟩, ?cpl, exec_writes_flags rfl, exec_writes_flags rfl⟩
  obtain ⟨t, hnext, hres : t.a = _, hrest⟩ := exec_writes_register_and_flags (i := .cpl) (s := s) rfl
  exact ⟨t, hnext, hres ▸ toNat_xor_ff s.a, hrest⟩

end Sys2Proof

/-! 16-bit arithmetic (43_alu16.md R190 to R192). ADD HL,rr writes HL and F; INC rr and DEC rr write a pair alone, as the
loads of a pair do, and so take their frame from there. -/

namespace Sys2Proof.Machine

/-- An instruction that writes HL and F. -/
theorem exec_writes_hl_and_flags {i : Instr} {s : State} {len cycles : Nat} {v : Word} {z n h c : Bool}
    (hexec : exec i s = (((s.fetched len).setPair .hl v).setFlags z n h c).done cycles) :
    ∃ t, exec i s = .next t ∧ t.pair .hl = v ∧ FlagsAre t z n h c ∧ KeepsRegs Pair.hl.regs s t ∧
      StepsPure len cycles s t :=
  ⟨_, hexec, State.pair_setPair_same (s.fetched len) .hl v, flagsAre_done _ cycles rfl rfl rfl rfl,
    (((KeepsRegs.fetched Pair.hl.regs s len).setPair (List.Subset.refl _) v).setF _).setNumCycles cycles,
    (((StepsPure.fetched s len).setPair_hl v).setF _).setNumCycles cycles⟩

/-! ### The three operations in plain arithmetic -/

theorem add16_res (x y : Word) : (add16 x y).res.toNat = (x.toNat + y.toNat) % 65536 := BitVec.toNat_add x y

/-- INC adds 1 modulo 2^16 (R191). -/
theorem toNat_word_add_one (v : Word) : (v + 1).toNat = (v.toNat + 1) % 65536 := BitVec.toNat_add v 1

/-- DEC adds 2^16 - 1 modulo 2^16 (R192). -/
theorem toNat_word_sub_one (v : Word) : (v - 1).toNat = (v.toNat + 65535) % 65536 := by
  rw [BitVec.toNat_sub, Nat.add_comm]
  rfl

/-! ### The obligations -/

theorem encode_addHlPair (p : Pair) : encode (Row.addHlPair p) = [0b00#2 ++ p.code ++ 0b1001#4] := by
  cases p <;> rfl

theorem encode_incPair (p : Pair) : encode (Row.incPair p) = [0b00#2 ++ p.code ++ 0b0011#4] := by
  cases p <;> rfl

theorem encode_decPair (p : Pair) : encode (Row.decPair p) = [0b00#2 ++ p.code ++ 0b1011#4] := by
  cases p <;> rfl

/-- Settles O26: HL becomes the sum of the old HL and the pair, with H and C the carries of that sum and Z the old one. -/
theorem addToHl : Obligations.AddToHl := by
  intro p s
  obtain ⟨t, hnext, hsum, hrest⟩ := exec_writes_hl_and_flags (exec_addHlPair s p)
  exact ⟨encode_addHlPair p, t, hnext, (congrArg BitVec.toNat hsum).trans (add16_res s.hl (s.pair p)), hrest⟩

/-- Settles O27: both write the pair alone, so F is kept. -/
theorem incDecPair : Obligations.IncDecPair := by
  intro p s
  refine ⟨encode_incPair p, encode_decPair p, ?inc, ?dec⟩
  case inc =>
    obtain ⟨t, hnext, hval, hrest⟩ := exec_loads_pair (exec_incPair s p)
    exact ⟨t, hnext, hval ▸ toNat_word_add_one (s.pair p), hrest⟩
  case dec =>
    obtain ⟨t, hnext, hval, hrest⟩ := exec_loads_pair (exec_decPair s p)
    exact ⟨t, hnext, hval ▸ toNat_word_sub_one (s.pair p), hrest⟩

end Sys2Proof.Machine

/-! Rotates, shifts and bits (44_rotate_shift_bit.md R200 to R225). A rotate or shift writes its operand and F, BIT writes F
alone, RES and SET their operand alone: what each keeps is what the arithmetic and the loads keep, so only the values of the
operand and of the flags are left to read. -/

namespace Sys2Proof.Machine

/-! ### The bit a mask selects -/

/-- A mask is a power of two (30_encoding.md R100). -/
theorem getLsbD_bitMask (b : Code3) {i : Nat} (hi : i < 8) : (bitMask b).getLsbD i = decide (i = b.toNat) := by
  have hmask : bitMask b = BitVec.twoPow 8 b.toNat := rfl
  rw [hmask, BitVec.getLsbD_twoPow, ← Bool.decide_and, decide_eq_decide]
  omega

/-- RES masks the one bit out (R222). -/
theorem bitMade_and_not_bitMask (b : Code3) (v : Byte) : BitMade b false v (v &&& ~~~bitMask b) := by
  intro i hi
  rw [BitVec.getLsbD_and, BitVec.getLsbD_not, getLsbD_bitMask b hi]
  by_cases hb : i = b.toNat
  · simp [hb]
  · simp [hb, hi]

/-- SET masks the one bit in (R224). -/
theorem bitMade_or_bitMask (b : Code3) (v : Byte) : BitMade b true v (v ||| bitMask b) := by
  intro i hi
  rw [BitVec.getLsbD_or, getLsbD_bitMask b hi]
  by_cases hb : i = b.toNat
  · simp [hb]
  · simp [hb]

/-- A clear bit in plain arithmetic (R220). -/
theorem not_getLsbD_eq_decide (v : Byte) (i : Nat) : (!v.getLsbD i) = decide (v.toNat / 2 ^ i % 2 = 0) := by
  rw [BitVec.getLsbD, Nat.testBit_eq_decide_div_mod_eq, ← decide_not, decide_eq_decide]
  exact Nat.mod_two_ne_one

/-! ### The forms of RES and SET -/

section
variable {i : Instr} {s : State} {len cycles : Nat} {b : Code3} {bit : Bool} {v : Byte}

/-- A register is loaded with its own byte, one bit of it changed. -/
theorem exec_makes_bit_of_register {r : Reg} (hbit : BitMade b bit (s.reg r) v)
    (h : exec i s = ((s.fetched len).setReg r v).done cycles) :
    ∃ t, exec i s = .next t ∧ BitMade b bit (s.reg r) (t.reg r) ∧ KeepsRegs [r] s t ∧ t.f = s.f ∧
      StepsPure len cycles s t := by
  obtain ⟨t, hnext, hres, hrest⟩ := exec_loads_register h
  exact ⟨t, hnext, hres ▸ hbit, hrest⟩

/-- An address is stored with its own byte, one bit of it changed. -/
theorem exec_makes_bit_of_byte {addr : Word} (hbit : BitMade b bit (s.memRead addr) v)
    (h : exec i s = ((s.fetched len).memWrite addr v).done cycles) :
    ∃ t, exec i s = .next t ∧ BitMade b bit (s.memRead addr) (t.memRead addr) ∧ KeepsMemoryBut [addr] s t ∧
      KeepsRegs [] s t ∧ t.f = s.f ∧ t.sp = s.sp ∧ Steps len cycles s t := by
  obtain ⟨t, hnext, hres, hrest⟩ := exec_stores_byte h
  exact ⟨t, hnext, hres ▸ hbit, hrest⟩

end

/-! ### The obligations -/

theorem encode_rotAcc (k : AccRotOp) : encode (Row.rotAcc k) = [0b00#2 ++ k.op.code ++ 0b111#3] := by
  cases k <;> rfl

/-- Settles O28: A becomes the rotated byte, and C is the bit shifted out. -/
theorem accumulatorRotates : Obligations.AccumulatorRotates := by
  intro k s
  obtain ⟨t, hnext, hres : t.a = _, hflags, hrest⟩ := exec_writes_register_and_flags (exec_rotAcc s k)
  refine ⟨encode_rotAcc k, t, hnext, ?a, ?flags, hrest⟩
  case a => rw [hres]; exact rotResult_eq k.op s.a s.flagC
  case flags => rw [← rotCarry_eq]; exact hflags

/-- Settles O29: the register becomes the rotated byte, and Z is read off that byte. -/
theorem rotateRegister : Obligations.RotateRegister := by
  intro k r s
  obtain ⟨t, hnext, hres, hflags, hrest⟩ := exec_writes_register_and_flags (exec_rotReg s k r)
  refine ⟨encode_rotReg k r, t, hnext, ?value, ?flags, hrest⟩
  case value => rw [hres]; exact rotResult_eq k (s.reg r) s.flagC
  case flags => rw [hres, ← rotCarry_eq]; exact hflags

/-- Settles O30: the byte at HL becomes the rotated byte, and Z is read off that byte. -/
theorem rotateAtHl : Obligations.RotateAtHl := by
  intro k s
  obtain ⟨t, hnext, hres : t.memRead s.hl = _, hflags, hrest⟩ := exec_writes_byte_and_flags (exec_rotMem s k)
  refine ⟨encode_rotMem k, t, hnext, ?value, ?flags, hrest⟩
  case value => rw [hres]; exact rotResult_eq k s.atHl s.flagC
  case flags => rw [hres, ← rotCarry_eq]; exact hflags

/-- Settles O31: both forms write F alone, and their Z is the complement of the bit. -/
theorem bitTest : Obligations.BitTest := by
  intro b r s
  rw [← not_getLsbD_eq_decide, ← not_getLsbD_eq_decide]
  exact ⟨encode_bitReg b r, encode_bitMem b, exec_writes_flags (exec_bitReg s b r), exec_writes_flags (exec_bitMem s b)⟩

/-- Settles O32: RES and SET write back their operand with the one bit masked out or in. -/
theorem resAndSet : Obligations.ResAndSet := fun b r s =>
  ⟨⟨encode_resReg b r, encode_setBitReg b r, encode_resMem b, encode_setBitMem b⟩,
    exec_makes_bit_of_register (bitMade_and_not_bitMask b (s.reg r)) (exec_resReg s b r),
    exec_makes_bit_of_register (bitMade_or_bitMask b (s.reg r)) (exec_setBitReg s b r),
    exec_makes_bit_of_byte (bitMade_and_not_bitMask b s.atHl) (exec_resMem s b),
    exec_makes_bit_of_byte (bitMade_or_bitMask b s.atHl) (exec_setBitMem s b)⟩

end Sys2Proof.Machine

/-! Control transfer (45_control.md R240 to R252). First what writing PC keeps, beside the operations of the
loads; then what a jump, a call and a return answer, whatever instruction they serve, and the two outcomes of a condition;
then the obligations, and how a pop undoes a push. -/

namespace Sys2Proof.Machine

/-! ### What the operations of a transfer keep -/

theorem KeepsRegs.setPc {written : List Reg} {s t : State} (h : KeepsRegs written s t) (v : Word) :
    KeepsRegs written s (t.setPc v) :=
  fun q hq => (State.reg_setPc t v q).trans (h q hq)

theorem KeepsRegs.trans {written : List Reg} {s t u : State} (h : KeepsRegs written s t) (h' : KeepsRegs written t u) :
    KeepsRegs written s u :=
  fun q hq => (h' q hq).trans (h q hq)

/-- A transfer is what the loads and pushes made of the state, with PC and the cost written over. -/
theorem Steps.transfers {len before : Nat} {s t : State} (h : Steps len before s t) (hregs : KeepsRegs [] s t)
    (hflags : t.f = s.f) (target : Word) (cycles : Nat) :
    Transfers target cycles s ((t.setPc target).setNumCycles cycles) :=
  ⟨rfl, rfl, (hregs.setPc target).setNumCycles cycles, hflags, ⟨h.control.ime, h.control.halted, h.control.fault⟩,
    (keepsDevices_iff _ _).2 ((keepsDevices_iff s t).1 h.devices)⟩

theorem Pushed.setPc {v : Word} {s t : State} (h : Pushed v s t) (target : Word) : Pushed v s (t.setPc target) :=
  ⟨h.sp, h.high, h.low, h.memory⟩

theorem Popped.setPc {s t : State} (h : Popped s t) (target : Word) : Popped s (t.setPc target) :=
  ⟨h.sp, h.memory⟩

theorem Popped.setIme {s t : State} (h : Popped s t) (b : Bool) : Popped s (t.setIme b) :=
  ⟨h.sp, h.memory⟩

/-! ### What the shared operations answer -/

section
variable (s : State)

/-- A jump writes PC alone, whatever the target. -/
theorem jump_transfers (len cycles : Nat) (target : Word) :
    ∃ t, ((s.fetched len).setPc target).done cycles = .next t ∧ TransfersPure target cycles s t :=
  ⟨_, rfl, (Steps.fetched s len).transfers (KeepsRegs.fetched [] s len) (State.f_fetched s len) target cycles, rfl,
    State.memRead_fetched s len⟩

/-- A conditional instruction that is not taken ends after its fetch, which is a jump to the next instruction. -/
theorem notTaken_transfers (len cycles : Nat) :
    ∃ t, (s.fetched len).done cycles = .next t ∧ TransfersPure (s.pc + BitVec.ofNat 16 len) cycles s t :=
  jump_transfers s len cycles (s.pc + BitVec.ofNat 16 len)

/-- The target of a relative jump, counted from the jump's own address. -/
theorem jumpRel_transfers (cycles : Nat) (e : Byte) :
    ∃ t, jumpRel cycles e s = .next t ∧ TransfersPure (BitVec.ofInt 16 (s.pc.toNat + 2 + e.toInt)) cycles s t := by
  rw [← relative_eq]
  exact jump_transfers s 2 cycles _

/-- CALL and RST: the push of the next instruction's address, then the jump. -/
theorem call_transfers (len cycles : Nat) (target : Word) :
    ∃ t, (((s.fetched len).push16 (s.fetched len).pc).setPc target).done cycles = .next t ∧
      Transfers target cycles s t ∧ Pushed (s.pc + BitVec.ofNat 16 len) s t :=
  ⟨_, rfl, ((Steps.fetched s len).push16 _).transfers ((KeepsRegs.fetched [] s len).push16 _)
      (State.f_push16 (s.fetched len) _) target cycles,
    ((pushed_push16 (s.fetched len) _).of_fetched.setPc target).setNumCycles cycles⟩

/-- The transfer that RET and RETI make: to the popped word. -/
theorem fetched_dropTop_transfers (cycles : Nat) :
    Transfers s.wordAtSp cycles s (((s.fetched 1).dropTop.setPc s.wordAtSp).setNumCycles cycles) :=
  ((Steps.fetched s 1).setSp (s.sp + 2)).transfers ((KeepsRegs.fetched [] s 1).setSp (s.sp + 2)) (State.f_fetched s 1)
    s.wordAtSp cycles

theorem returnPopping_transfers (cycles : Nat) :
    ∃ t, returnPopping cycles s = .next t ∧ Transfers s.wordAtSp cycles s t ∧ Popped s t :=
  ⟨_, rfl, fetched_dropTop_transfers s cycles, ((popped_fetched_dropTop s 1).setPc _).setNumCycles cycles⟩

end

/-- The two outcomes of a conditional instruction (R245). -/
theorem conditional_outcomes {s : State} {cc : Cond} {taken notTaken : Result} {P Q : State → Prop}
    (htaken : ∃ t, taken = .next t ∧ P t) (hnot : ∃ t, notTaken = .next t ∧ Q t) :
    ∃ t, (if s.holds cc then taken else notTaken) = .next t ∧ (condition s cc → P t) ∧ (¬ condition s cc → Q t) := by
  rw [← holds_iff]
  by_cases hcc : s.holds cc = true
  · obtain ⟨t, hnext, hP⟩ := htaken
    exact ⟨t, (if_pos hcc).trans hnext, fun _ => hP, absurd hcc⟩
  · obtain ⟨t, hnext, hQ⟩ := hnot
    exact ⟨t, (if_neg hcc).trans hnext, fun h => absurd h hcc, fun _ => hQ⟩

/-! ### The obligations of the jumps -/

theorem encode_jumpIf (cc : Cond) (nn : Word) :
    encode (Row.jumpIf cc nn) = [0b110#3 ++ cc.code ++ 0b010#3, nn.lo, nn.hi] := by
  cases cc <;> rfl

theorem encode_jumpRelIf (cc : Cond) (e : Byte) :
    encode (Row.jumpRelIf cc e) = [0b001#3 ++ cc.code ++ 0b000#3, e] := by
  cases cc <;> rfl

/-- Settles O33: three jumps, whose targets are an immediate, HL and a relative one. -/
theorem jumps : Obligations.Jumps := fun nn e s =>
  ⟨⟨rfl, rfl, rfl⟩, jump_transfers s 3 16 nn, jump_transfers s 1 4 s.hl, jumpRel_transfers s 12 e⟩

/-- Settles O34: taken, each is its unconditional jump. -/
theorem conditionalJumps : Obligations.ConditionalJumps := by
  intro cc nn e s
  rw [exec_jumpIf, exec_jumpRelIf]
  exact ⟨encode_jumpIf cc nn, encode_jumpRelIf cc e,
    conditional_outcomes (jump_transfers s 3 16 nn) (notTaken_transfers s 3 12),
    conditional_outcomes (jumpRel_transfers s 12 e) (notTaken_transfers s 2 8)⟩

/-! ### The obligations of the calls and returns -/

theorem encode_callIf (cc : Cond) (nn : Word) :
    encode (Row.callIf cc nn) = [0b110#3 ++ cc.code ++ 0b100#3, nn.lo, nn.hi] := by
  cases cc <;> rfl

theorem encode_restart (y : Code3) : encode (Row.restart y) = [0b11#2 ++ y.bits ++ 0b111#3] := by
  cases y <;> rfl

theorem encode_returnIf (cc : Cond) : encode (Row.returnIf cc) = [0b110#3 ++ cc.code ++ 0b000#3] := by
  cases cc <;> rfl

/-- CALL nn (R246). -/
theorem exec_callWord_transfers (nn : Word) (s : State) :
    ∃ t, exec (.callWord nn) s = .next t ∧ Transfers nn 24 s t ∧ Pushed (s.pc + 3) s t :=
  call_transfers s 3 24 nn

/-- RST t (R251). -/
theorem exec_restart_transfers (y : Code3) (s : State) :
    ∃ t, exec (Row.restart y) s = .next t ∧
      Transfers (BitVec.ofNat 16 (8 * y.toNat)) 16 s t ∧ Pushed (s.pc + 1) s t := by
  rw [exec_restart]
  exact call_transfers s 1 16 (rstTarget y)

/-- Settles O35: taken, CALL cc,nn is CALL nn. -/
theorem calls : Obligations.Calls := by
  intro cc nn y s
  refine ⟨rfl, encode_callIf cc nn, encode_restart y, exec_callWord_transfers nn s, ?conditional,
    exec_restart_transfers y s⟩
  rw [exec_callIf]
  exact conditional_outcomes (call_transfers s 3 24 nn) (notTaken_transfers s 3 12)

/-- RET (R248). -/
theorem exec_ret_transfers (s : State) :
    ∃ t, exec .ret s = .next t ∧ Transfers s.wordAtSp 16 s t ∧ Popped s t :=
  returnPopping_transfers s 16

/-- Settles O36: taken, RET cc is RET at a cost of its own. -/
theorem returns : Obligations.Returns := by
  intro cc s
  refine ⟨rfl, encode_returnIf cc, exec_ret_transfers s, ?conditional⟩
  rw [exec_returnIf]
  exact conditional_outcomes (returnPopping_transfers s 20) (notTaken_transfers s 1 8)

/-- Settles O37: RETI is the transfer of RET, after which IME is set. -/
theorem returnFromInterrupt : Obligations.ReturnFromInterrupt := by
  intro s
  have hret := fetched_dropTop_transfers s 16
  have hpopped := (((popped_fetched_dropTop s 1).setPc s.wordAtSp).setIme true).setNumCycles 16
  exact ⟨rfl, _, rfl, hret.pc, rfl, hret.control.halted, hret.control.fault, hret.numCycles, hpopped, hret.regs, hret.flags,
    exec_keepsDevices (i := .reti) rfl⟩

/-! ### A pop undoes a push (R252) -/

/-- The word popped after a push is the word pushed (20_memory.md R66, R67). -/
theorem Pushed.wordAtSp {v : Word} {s t : State} (h : Pushed v s t) : t.wordAtSp = v := by
  have hhigh : s.sp - 2 + 1 = s.sp - 1 := by bv_omega
  rw [State.wordAtSp, h.sp, hhigh, h.high, h.low, Word.ofBytes_hi_lo]

theorem Popped.sp_of_pushed {v : Word} {s t u : State} (hpush : Pushed v s t) (hpop : Popped t u) : u.sp = s.sp := by
  rw [hpop.sp, hpush.sp, BitVec.sub_add_cancel]

/-- A pop reads and writes no memory, so what the push stored stays below the old SP. -/
theorem Popped.memory_of_pushed {v : Word} {s t u : State} (hpush : Pushed v s t) (hpop : Popped t u) :
    u.memRead (s.sp - 1) = v.hi ∧ u.memRead (s.sp - 2) = v.lo ∧ KeepsMemoryBut [s.sp - 1, s.sp - 2] s u :=
  ⟨(hpop.memory _).trans hpush.high, (hpop.memory _).trans hpush.low,
    fun k hk => (hpop.memory k).trans (hpush.memory k hk)⟩

/-- An instruction answers one state. -/
theorem of_answer {r : Result} {P : State → Prop} {u : State} (h : ∃ t, r = .next t ∧ P t) (hu : r = .next u) : P u := by
  obtain ⟨t, ht, hP⟩ := h
  cases ht.symm.trans hu
  exact hP

/-- RET after an instruction that transfers control and pushes a word returns to that word and undoes the rest. -/
theorem ret_undoes_push {v target : Word} {cycles : Nat} {s t u : State}
    (hcall : Transfers target cycles s t ∧ Pushed v s t) (hret : exec .ret t = .next u) :
    u.pc = v ∧ u.sp = s.sp ∧ KeepsRegs [] s u ∧ u.f = s.f ∧ t.numCycles + u.numCycles = cycles + 16 ∧
      u.memRead (s.sp - 1) = v.hi ∧ u.memRead (s.sp - 2) = v.lo ∧ KeepsMemoryBut [s.sp - 1, s.sp - 2] s u := by
  obtain ⟨hto, hpush⟩ := hcall
  obtain ⟨hback, hpop⟩ := of_answer (exec_ret_transfers t) hret
  refine ⟨hback.pc.trans hpush.wordAtSp, hpop.sp_of_pushed hpush, hto.regs.trans hback.regs,
    hback.flags.trans hto.flags, ?cost, hpop.memory_of_pushed hpush⟩
  rw [hto.numCycles, hback.numCycles]

/-- A dispatch pushes PC, once IME and the source's pending bit are cleared (60_exceptions.md R324). -/
theorem pushed_takeInterrupt (s : State) (src : IntSource) :
    Pushed s.pc ((s.setIme false).clearPending src) (s.takeInterrupt src) :=
  (pushed_push16 ((s.setIme false).clearPending src) s.pc).setPc _

/-- RETI after a dispatch. Of memory the pushed word and IF have changed; where SP lies at IF, the push, which comes after
the clearing of the pending bit, has the last word. -/
theorem reti_undoes_takeInterrupt {src : IntSource} {s u : State} (hreti : exec .reti (s.takeInterrupt src) = .next u) :
    u.pc = s.pc ∧ u.ime = true ∧ u.sp = s.sp ∧ KeepsRegs [] s u ∧ u.f = s.f ∧
      u.memRead (s.sp - 1) = s.pc.hi ∧ u.memRead (s.sp - 2) = s.pc.lo ∧
      KeepsMemoryBut [s.sp - 1, s.sp - 2, 0xFF0F] s u := by
  have hpush := pushed_takeInterrupt s src
  obtain ⟨hpc, hime, -, -, -, hpop, hregs, hflags, -⟩ := of_answer (returnFromInterrupt (s.takeInterrupt src)).2 hreti
  have hsp := hpop.sp_of_pushed hpush
  obtain ⟨hhigh, hlow, hmemory⟩ := hpop.memory_of_pushed hpush
  refine ⟨hpc.trans hpush.wordAtSp, hime, hsp, ?regs, ?flags, hhigh, hlow, ?memory⟩
  case regs => exact fun r hr => (hregs r hr).trans (State.reg_takeInterrupt s src r)
  case flags => exact hflags.trans (State.f_takeInterrupt s src)
  case memory =>
    intro k hk
    obtain ⟨hstack, hif⟩ : k ∉ [s.sp - 1, s.sp - 2] ∧ k ≠ Params.intFlag := by
      simpa [Params.intFlag, not_or, and_assoc] using hk
    rw [hmemory k hstack, State.memRead_clearPending, if_neg hif, State.memRead_setIme]

/-- Settles O38: CALL and RST are transfers that push, a dispatch is a push, and the return pops what was pushed. -/
theorem returnUndoesCall : Obligations.ReturnUndoesCall := fun nn y _ s _ _ =>
  ⟨fun hcall => ret_undoes_push (of_answer (exec_callWord_transfers nn s) hcall),
    fun hrst => ret_undoes_push (of_answer (exec_restart_transfers y s) hrst), reti_undoes_takeInterrupt⟩

end Sys2Proof.Machine

/-! System instructions and the fatal fault (46_system.md R260 to R266, 60_exceptions.md R310, R311). First what writing IME
and the halted flag keeps; then the fatal fault, raised by an instruction and taken by the step that fetched it. -/

namespace Sys2Proof.Machine

/-! ### NOP, DI, EI and HALT -/

namespace KeepsRegs

variable {written : List Reg} {s t : State}

theorem setIme (h : KeepsRegs written s t) (b : Bool) : KeepsRegs written s (t.setIme b) :=
  fun q hq => (State.reg_setIme t b q).trans (h q hq)

theorem setHalted (h : KeepsRegs written s t) (b : Bool) : KeepsRegs written s (t.setHalted b) :=
  fun q hq => (State.reg_setHalted t b q).trans (h q hq)

end KeepsRegs

/-- An instruction that goes on as a transfer does and then writes IME (R263, R264). -/
theorem exec_writes_ime {i : Instr} {target : Word} {cycles : Nat} {s t : State} {b : Bool}
    (ht : TransfersPure target cycles s t) (h : exec i s = .next (t.setIme b)) :
    ∃ u, exec i s = .next u ∧
      u.ime = b ∧ u.pc = target ∧ u.numCycles = cycles ∧ u.halted = s.halted ∧ u.fault = s.fault ∧ KeepsRegs [] s u ∧
      u.f = s.f ∧ u.sp = s.sp ∧ KeepsMemory s u ∧ KeepsDevices s u := by
  obtain ⟨⟨hpc, hcycles, hregs, hflags, ⟨_, hhalted, hfault⟩, _⟩, hsp, hmemory⟩ := ht
  exact ⟨_, h, rfl, hpc, hcycles, hhalted, hfault, hregs.setIme b, hflags, hsp, hmemory, exec_keepsDevices h⟩

/-- Settles O39: each goes on to the next instruction, and DI and EI write IME at once. -/
theorem nopDiEi : Obligations.NopDiEi := by
  intro s
  obtain ⟨_, ⟨⟩, hnext⟩ := notTaken_transfers s 1 4
  exact ⟨⟨rfl, rfl, rfl⟩, ⟨_, rfl, hnext⟩, exec_writes_ime hnext rfl, exec_writes_ime hnext rfl⟩

/-- Settles O40: a jump back over the fetch, to HALT itself, with the halted flag written beside PC. -/
theorem halt : Obligations.Halt := by
  intro s
  have hback : (s.fetched 1).pc - 1 = s.pc := BitVec.add_sub_cancel s.pc 1
  obtain ⟨t, ⟨⟩, ⟨hpc, hcycles, hregs, hflags, ⟨hime, _, hfault⟩, _⟩, hsp, hmemory⟩ :=
    jump_transfers s 1 4 ((s.fetched 1).pc - 1)
  exact ⟨rfl, _, rfl, rfl, hpc.trans hback, hcycles, hime, hfault, hregs.setHalted true, hflags, hsp, hmemory,
    exec_keepsDevices (i := .halt) rfl⟩

/-! ### The fatal fault -/

/-- A step whose instruction raises the fatal fault ends there: TIMER, PPU and IC do not run (60_exceptions.md R310). -/
theorem step_eq_raiseFault {s : State} {r : FaultRecord} (hs : s.fault = none)
    (hexec : exec s.fetchInstr s = s.raiseFault r) : step s = s.raiseFault r := by
  unfold step
  rw [hs, hexec]
  rfl

/-- The fetch of STOP, whatever its second byte (30_encoding.md R104). -/
theorem State.fetchInstr_stop {s : State} (h : s.memRead s.pc = 0x10) : s.fetchInstr = .stop := by
  rw [State.fetchInstr, h]
  rfl

/-- The fetch of an unrecognized opcode, whatever bytes follow (30_encoding.md R103). -/
theorem State.fetchInstr_illegal {s : State} {p : Byte × Instr} (hp : p ∈ Params.illegal) (h : s.memRead s.pc = p.1) :
    s.fetchInstr = p.2 := by
  rw [State.fetchInstr, decodeBytes_eq_decodeMap, h]
  exact (decodeMap_of_mem_illegal p hp _ _).1

theorem encode_illegal : ∀ p ∈ Params.illegal, encode p.2 = [p.1] := by
  decide

/-- Every row of ILLEGAL raises the fatal fault with its own opcode (R266). -/
theorem exec_illegal (s : State) {p : Byte × Instr} (hp : p ∈ Params.illegal) :
    exec p.2 s = s.raiseFault (.illegalOpcode s.pc p.1) := by
  fin_cases hp <;> rfl

theorem step_illegal {s : State} (hs : s.fault = none) (hop : s.memRead s.pc ∈ Params.illegal.map Prod.fst) :
    step s = s.raiseFault (.illegalOpcode s.pc (s.memRead s.pc)) := by
  obtain ⟨p, hp, hpc⟩ := List.mem_map.1 hop
  rw [← hpc]
  refine step_eq_raiseFault hs ?_
  rw [State.fetchInstr_illegal hp hpc.symm, exec_illegal s hp]

/-- STOP raises the fatal fault under the default STOP_BEHAVIOUR (R262, decision D13). -/
theorem exec_stop (s : State) : exec .stop s = s.raiseFault (.stop s.pc) := rfl

theorem step_stop {s : State} (hs : s.fault = none) (hop : s.memRead s.pc = 0x10) :
    step s = s.raiseFault (.stop s.pc) := by
  refine step_eq_raiseFault hs ?_
  rw [State.fetchInstr_stop hop, exec_stop]

/-- Settles O41: the obligation's list is ILLEGAL with each row turned around. -/
theorem fatalFaults : Obligations.FatalFaults := fun s =>
  have hrows : ∀ p ∈ Params.illegal.map Prod.swap,
      encode p.1 = [p.2] ∧ exec p.1 s = s.raiseFault (.illegalOpcode s.pc p.2) :=
    List.forall_mem_map.2 fun p hp => ⟨encode_illegal p hp, exec_illegal s hp⟩
  ⟨exec_stop s, hrows, step_stop, step_illegal⟩

end Sys2Proof.Machine

/-! The scheduler step (60_exceptions.md R300, R301, R310): it executes what the bytes at PC decode to, and it always
answers a next state, because every instruction does. Then what instructions cost, and which of them fault (R311). -/

namespace Sys2Proof.Machine

/-! ### The step -/

theorem step_eq_afterInstruction {s t : State} (hs : s.fault = none) (hexec : exec s.fetchInstr s = .next t) :
    step s = .next t.afterInstruction := by
  unfold step
  rw [hs, hexec]

theorem step_of_fault {s : State} (hs : s.fault ≠ none) : step s = .next s := by
  obtain ⟨r, hr⟩ := Option.ne_none_iff_exists'.1 hs
  unfold step
  rw [hr]

/-- Settles O5: the fetch decodes the same three bytes, and the scheduler's work ends at once after a fault. -/
theorem stepRunsDecoded : Obligations.StepRunsDecoded := by
  intro s t i rest hs hdecode hexec
  rw [decode_three_bytes] at hdecode
  obtain ⟨rfl, -⟩ : s.fetchInstr = i ∧ _ := by
    simpa only [State.fetchInstr, Except.ok.injEq, Prod.mk.injEq] using hdecode
  rw [step_eq_afterInstruction hs hexec]
  obtain ⟨hfault, hafter⟩ | ⟨hnone, hafter⟩ := t.afterInstruction_cases <;> rw [hafter]
  · exact ⟨fun hnone => absurd hnone hfault, fun _ => rfl⟩
  · exact ⟨fun _ => rfl, fun hfault => absurd hnone hfault⟩

/-- Every shared operation answers a next state, the conditional ones on either side of their condition. -/
theorem Shape.run_answers_next (sh : Shape) (s : State) : ∃ t, sh.run s = .next t := by
  cases sh with
  | jumpIf | jumpRelIf | callIf | returnIf =>
    exact iteInduction (motive := fun r : Result => ∃ t, r = .next t) (fun _ => ⟨_, rfl⟩) (fun _ => ⟨_, rfl⟩)
  | _ => exact ⟨_, rfl⟩

theorem exec_answers_next (i : Instr) (s : State) : ∃ t, exec i s = .next t := by
  rw [exec_eq_run]
  exact Shape.run_answers_next _ s

/-- Settles O6: a step answers the state itself after a fault, else what its instruction answers, carried on. -/
theorem everyStepAnswersNext : Obligations.EveryStepAnswersNext := by
  refine fun s => ⟨?_, step_of_fault⟩
  by_cases hs : s.fault = none
  · obtain ⟨t, ht⟩ := exec_answers_next s.fetchInstr s
    exact ⟨_, step_eq_afterInstruction hs ht⟩
  · exact ⟨s, step_of_fault hs⟩

/-! ### Faults and costs -/

theorem fault_closed (r : Option FaultRecord) : ClosedUnderCpu (fun s => s.fault = r) where
  setReg s q v h := by simpa only [State.fault_setReg] using h
  setF _ _ _ h := h
  setSp _ _ h := h
  setPc _ _ h := h
  memWrite _ _ _ h := h
  setNumCycles _ _ _ h := h

/-- An instruction other than STOP and the unrecognized opcodes raises no fault (R311). -/
theorem exec_keeps_fault {i : Instr} {s t : State} (hstop : i ≠ .stop) (hwf : i.wellFormed = true)
    (h : exec i s = .next t) : t.fault = s.fault := by
  refine exec_keeps (fault_closed s.fault) ⟨fun _ _ h => h, fun _ _ h => h, fun _ _ h => h, ?_⟩ rfl h
  rintro (hsh | ⟨opcode, hsh⟩)
  · exact absurd (shapeOf_stop hsh) hstop
  · rw [shapeOf_unrecognized hsh] at hwf
    cases hwf

/-- The instruction left a cost of 4 to 24 in fours. -/
def State.CostInFours (s : State) : Prop := s.numCycles % 4 = 0 ∧ 4 ≤ s.numCycles ∧ s.numCycles ≤ 24

theorem costInFours_setNumCycles (s : State) {n : Nat} (hn : n % 4 = 0 ∧ 4 ≤ n ∧ n ≤ 24) :
    (s.setNumCycles n).CostInFours := hn

/-- Every figure of the cost table is such a cost (70_reset_and_hazards.md R420). -/
theorem costInFours_done (s : State) (line : Params.CostLine) (taken : Bool) :
    Answers State.CostInFours (s.done (Params.cost line taken)) :=
  answers_next (costInFours_setNumCycles s (by cases line <;> cases taken <;> decide))

/-- Every shape but the two that fault ends at a cost of the table or at HALT's. -/
theorem Shape.run_costInFours {sh : Shape} (hstop : sh ≠ .stopCpu) (hrec : ∀ opcode, sh ≠ .unrecognized opcode)
    (s : State) : Answers State.CostInFours (sh.run s) := by
  cases sh with
  | stopCpu => exact absurd rfl hstop
  | unrecognized opcode => exact absurd rfl (hrec opcode)
  | haltCpu => exact answers_next (costInFours_setNumCycles _ (by decide))
  | jumpIf | jumpRelIf | callIf | returnIf =>
    exact iteInduction (fun _ => costInFours_done _ _ true) (fun _ => costInFours_done _ _ false)
  | _ => exact costInFours_done _ _ false

/-- Settles O42: of the shapes only STOP's and the unrecognized opcodes' write the fault record or cost nothing. -/
theorem faultsAndCosts : Obligations.FaultsAndCosts := by
  intro i s t h hstop hwf
  refine ⟨exec_keeps_fault hstop hwf h, ?_⟩
  have hrec : ∀ opcode, shapeOf i ≠ .unrecognized opcode := fun opcode hsh => by
    rw [shapeOf_unrecognized hsh] at hwf
    cases hwf
  exact Shape.run_costInFours (fun hsh => hstop (shapeOf_stop hsh)) hrec s t (exec_eq_run i s ▸ h)

end Sys2Proof.Machine

/-! The host's buttons (60_exceptions.md R380), interrupt servicing (R320 to R328) and the timer (R340 to R343). -/

namespace Sys2Proof.Machine

/-! ### What operations on memory keep -/

theorem keepsCpu_memWrite (s : State) (k : Word) (v : Byte) : KeepsCpu s (s.memWrite k v) :=
  ⟨fun r _ => State.reg_memWrite s k v r, rfl, rfl, rfl, rfl, ⟨rfl, rfl, rfl⟩⟩

theorem keepsDevices_memWrite (s : State) (k : Word) (v : Byte) : KeepsDevices s (s.memWrite k v) :=
  ⟨⟨rfl, rfl⟩, ⟨rfl, rfl, rfl, rfl, rfl, rfl, rfl, rfl⟩⟩

theorem KeepsCpu.trans {s t u : State} (h : KeepsCpu s t) (h' : KeepsCpu t u) : KeepsCpu s u where
  regs := h.regs.trans h'.regs
  f := h'.f.trans h.f
  sp := h'.sp.trans h.sp
  pc := h'.pc.trans h.pc
  numCycles := h'.numCycles.trans h.numCycles
  control := ⟨h'.control.ime.trans h.control.ime, h'.control.halted.trans h.control.halted,
    h'.control.fault.trans h.control.fault⟩

theorem KeepsDevices.trans {s t u : State} (h : KeepsDevices s t) (h' : KeepsDevices t u) : KeepsDevices s u :=
  (keepsDevices_iff s u).2 (((keepsDevices_iff t u).1 h').trans ((keepsDevices_iff s t).1 h))

/-! ### Buttons -/

/-- Settles O52: a button writes JOYP, and a press then requests source 4. -/
theorem buttonActions : Obligations.ButtonActions := by
  intro k s
  have hother : ∀ {j : Word}, j ≠ 0xFF00 → (s.toggleButton k).memRead j = s.memRead j := fun h =>
    State.memRead_memWrite_other s h _
  have hcpu : KeepsCpu s (s.toggleButton k) := keepsCpu_memWrite s _ _
  have hdev : KeepsDevices s (s.toggleButton k) := keepsDevices_memWrite s _ _
  refine ⟨?request, ?memory, hcpu.trans (keepsCpu_memWrite _ _ _), hdev.trans (keepsDevices_memWrite _ _ _),
    fun j hj => hother (List.ne_of_not_mem_cons hj), hcpu, hdev⟩
  case request =>
    show ((s.toggleButton k).request .joypad).memRead Params.intFlag = _
    rw [State.memRead_request, if_pos rfl, hother (by decide)]
    rfl
  case memory =>
    intro j hj
    obtain ⟨hjoyp, hint⟩ : j ≠ 0xFF00 ∧ j ≠ 0xFF0F := by simpa using hj
    exact (State.memRead_request_other _ _ hint).trans (hother hjoyp)

/-! ### The bits of IF (R321, R322) -/

theorem source_index_lt (src : IntSource) : src.index < 5 := by cases src <;> decide

/-- A bit of a request's one-bit mask. -/
theorem getLsbD_sourceMask (src : IntSource) (i : Nat) : (1#8 <<< src.index).getLsbD i = decide (i = src.index) := by
  by_cases hi : i < 8
  · cases src <;> interval_cases i <;> rfl
  · have := source_index_lt src
    rw [BitVec.getLsbD_of_ge _ _ (by omega)]
    exact (decide_eq_false (by omega)).symm

theorem getLsbD_clearPending (s : State) (src : IntSource) (i : Nat) :
    ((s.clearPending src).memRead Params.intFlag).getLsbD i =
      if i = src.index then false else (s.memRead Params.intFlag).getLsbD i := by
  rw [State.memRead_clearPending, if_pos rfl, BitVec.getLsbD_and, BitVec.getLsbD_not, getLsbD_sourceMask]
  by_cases hi : i < 8
  · by_cases hsrc : i = src.index <;> simp [hi, hsrc]
  · simp [BitVec.getLsbD_of_ge _ i (Nat.le_of_not_lt hi)]

theorem getLsbD_request (s : State) (src : IntSource) (i : Nat) :
    ((s.request src).memRead Params.intFlag).getLsbD i =
      ((s.memRead Params.intFlag).getLsbD i || decide (i = src.index)) := by
  rw [State.memRead_request, if_pos rfl, BitVec.getLsbD_or, getLsbD_sourceMask]

/-! ### Pending and enabled sources (R322) -/

theorem exists_source_index {i : Nat} (hi : i < 5) : ∃ src : IntSource, src.index = i := by
  have h : ∀ j : Fin 5, ∃ src ∈ [IntSource.vblank, .lcdStat, .timer, .serial, .joypad], src.index = j := by decide
  obtain ⟨src, -, hsrc⟩ := h ⟨i, hi⟩
  exact ⟨src, hsrc⟩

theorem getLsbD_pendingEnabled (s : State) (i : Nat) :
    s.pendingEnabled.getLsbD i =
      ((s.memRead 0xFF0F).getLsbD i && (s.memRead 0xFFFF).getLsbD i && decide (i < 5)) := by
  have hmask : (0x1F : Byte).getLsbD i = decide (i < 5) := by
    by_cases hi : i < 8
    · interval_cases i <;> rfl
    · rw [BitVec.getLsbD_of_ge _ _ (by omega)]
      exact (decide_eq_false (by omega)).symm
  rw [State.pendingEnabled_eq, BitVec.getLsbD_and, BitVec.getLsbD_and, hmask]
  rfl

/-- The mask's bit of a source says whether the source is pending and enabled (R322). -/
theorem getLsbD_pendingEnabled_index (s : State) (src : IntSource) :
    s.pendingEnabled.getLsbD src.index = true ↔ s.pendingAndEnabled src := by
  simp [getLsbD_pendingEnabled, source_index_lt, State.pendingAndEnabled]

/-- The mask is 0 exactly if no source is pending and enabled. -/
theorem pendingEnabled_eq_zero_iff (s : State) : s.pendingEnabled = 0#8 ↔ ¬ s.somePending := by
  constructor
  · rintro hzero ⟨src, hsrc⟩
    rw [← getLsbD_pendingEnabled_index, hzero, BitVec.getLsbD_zero] at hsrc
    cases hsrc
  · intro hnone
    refine BitVec.eq_of_getLsbD_eq fun i _ => ?_
    rw [BitVec.getLsbD_zero, Bool.eq_false_iff]
    intro hbit
    have hi : i < 5 := by
      rw [getLsbD_pendingEnabled, Bool.and_eq_true, decide_eq_true_iff] at hbit
      exact hbit.2
    obtain ⟨src, rfl⟩ := exists_source_index hi
    exact hnone ⟨src, (getLsbD_pendingEnabled_index s src).1 hbit⟩

/-- The search goes by rising index, so it finds a source below which none is pending. -/
theorem firstSource_eq_some {pend : Byte} {src : IntSource} (hsrc : pend.getLsbD src.index = true)
    (hlower : ∀ other : IntSource, other.index < src.index → pend.getLsbD other.index = false) :
    firstSource pend = some src := by
  have h0 := hlower .vblank
  have h1 := hlower .lcdStat
  have h2 := hlower .timer
  have h3 := hlower .serial
  cases src <;> simp_all [firstSource, IntSource.index]

theorem firstSource_zero : firstSource 0#8 = none := rfl

/-! ### Servicing (R322, R323) -/

/-- The CPU after the un-halt of a servicing round, if there is one (R323). -/
def State.woken (s : State) : State := if s.halted then s.unhalt else s

section
variable (s : State)

theorem State.pc_woken : s.woken.pc = if s.halted then s.pc + 1 else s.pc := by
  unfold State.woken; split <;> rfl

@[simp] theorem State.halted_woken : s.woken.halted = false := by
  unfold State.woken; split
  · rfl
  · next hrunning => exact Bool.eq_false_iff.2 hrunning

@[simp] theorem State.f_woken : s.woken.f = s.f := by unfold State.woken; split <;> rfl
@[simp] theorem State.sp_woken : s.woken.sp = s.sp := by unfold State.woken; split <;> rfl
@[simp] theorem State.numCycles_woken : s.woken.numCycles = s.numCycles := by unfold State.woken; split <;> rfl
@[simp] theorem State.fault_woken : s.woken.fault = s.fault := by unfold State.woken; split <;> rfl
@[simp] theorem State.reg_woken (r : Reg) : s.woken.reg r = s.reg r := by unfold State.woken; split <;> cases r <;> rfl
@[simp] theorem State.memRead_woken (k : Word) : s.woken.memRead k = s.memRead k := by
  unfold State.woken; split <;> rfl

theorem keepsDevices_woken : KeepsDevices s s.woken := by
  rw [keepsDevices_iff]
  unfold State.woken; split <;> rfl

end

theorem State.servicePending_dispatch {s : State} {src : IntSource} (hime : s.ime = true)
    (hpend : s.pendingEnabled ≠ 0#8) (hfirst : firstSource s.pendingEnabled = some src) :
    s.servicePending = s.woken.takeInterrupt src := by
  have hw : (if s.halted && s.pendingEnabled != 0 then s.unhalt else s) = s.woken := by
    simp [State.woken, hpend]
  have hi : s.woken.ime = true := by
    unfold State.woken
    split <;> exact hime
  unfold State.servicePending
  dsimp only
  rw [hw, hi, hfirst]
  rfl

/-- With IME clear there is no dispatch. -/
theorem State.servicePending_ime_clear {s : State} (hime : s.ime = false) :
    s.servicePending = if s.halted && s.pendingEnabled != 0 then s.unhalt else s := by
  have hi : (if s.halted && s.pendingEnabled != 0 then s.unhalt else s).ime = false := by
    split <;> exact hime
  unfold State.servicePending
  dsimp only
  rw [hi]

/-- With nothing pending and enabled servicing changes nothing. -/
theorem State.servicePending_none {s : State} (hpend : s.pendingEnabled = 0#8) : s.servicePending = s := by
  unfold State.servicePending
  dsimp only
  rw [hpend, firstSource_zero]
  simp

/-- Settles O54: without a dispatch servicing is at most the un-halt. -/
theorem unhaltWithoutDispatch : Obligations.UnhaltWithoutDispatch := by
  refine fun s => ⟨fun hime hhalted hpend => ?wake, fun hnone => ?idle, fun hime hrunning => ?running⟩
  case wake =>
    have hne : s.pendingEnabled ≠ 0#8 := fun h => (pendingEnabled_eq_zero_iff s).1 h hpend
    rw [State.servicePending_ime_clear hime, if_pos (by simp [hhalted, hne])]
    rfl
  case idle => exact State.servicePending_none ((pendingEnabled_eq_zero_iff s).2 hnone)
  case running => rw [State.servicePending_ime_clear hime, hrunning, Bool.false_and, if_neg Bool.false_ne_true]

/-! ### Dispatch (R324, R325, R328) -/

theorem vector_eq (src : IntSource) : Params.vector src = BitVec.ofNat 16 (0x40 + 8 * src.index) := by
  cases src <;> rfl

theorem keepsDevices_takeInterrupt (s : State) (src : IntSource) : KeepsDevices s (s.takeInterrupt src) :=
  ⟨by constructor <;> simp, by constructor <;> simp⟩

/-- A dispatch clears the source's bit of IF and no other, where the push, which comes after, does not hit IF. -/
theorem takeInterrupt_getLsbD_intFlag {s : State} (src : IntSource) (hif : 0xFF0F ∉ [s.sp - 1, s.sp - 2]) (i : Nat) :
    ((s.takeInterrupt src).memRead 0xFF0F).getLsbD i =
      if i = src.index then false else (s.memRead 0xFF0F).getLsbD i := by
  have hpushed := pushed_takeInterrupt s src
  rw [hpushed.memory 0xFF0F hif]
  exact getLsbD_clearPending (s.setIme false) src i

theorem takeInterrupt_keepsMemoryBut (s : State) (src : IntSource) :
    KeepsMemoryBut [s.sp - 1, s.sp - 2, 0xFF0F] s (s.takeInterrupt src) := by
  intro k hk
  obtain ⟨hstack, hif⟩ : k ∉ [s.sp - 1, s.sp - 2] ∧ k ≠ Params.intFlag := by
    simpa [Params.intFlag, not_or, and_assoc] using hk
  rw [(pushed_takeInterrupt s src).memory k hstack, State.memRead_clearPending, if_neg hif, State.memRead_setIme]

/-- Settles O53: servicing takes the interrupt of that source from the woken CPU, which differs in PC and halted
alone. -/
theorem interruptDispatch : Obligations.InterruptDispatch := by
  intro s src hime hsrc hlower
  have hbit : s.pendingEnabled.getLsbD src.index = true := (getLsbD_pendingEnabled_index s src).2 hsrc
  have hfirst : firstSource s.pendingEnabled = some src := firstSource_eq_some hbit fun other hother =>
    Bool.eq_false_iff.2 fun h => hlower other hother ((getLsbD_pendingEnabled_index s other).1 h)
  have hpend : s.pendingEnabled ≠ 0#8 := fun h => by
    rw [h, firstSource_zero] at hfirst
    cases hfirst
  have hpushed := pushed_takeInterrupt s.woken src
  have hmemory := takeInterrupt_keepsMemoryBut s.woken src
  have hdevices := (keepsDevices_woken s).trans (keepsDevices_takeInterrupt s.woken src)
  have hif := @takeInterrupt_getLsbD_intFlag s.woken src
  extract_lets t resume
  rw [show t = s.woken.takeInterrupt src from State.servicePending_dispatch hime hpend hfirst,
    show resume = s.woken.pc from (State.pc_woken s).symm]
  refine ⟨State.ime_takeInterrupt _ _, by simp, ?vector, by simp, ?high, ?low, ?cleared, ?memory, fun r _ => by simp,
    by simp, by simp, by simp, hdevices⟩
  case vector => rw [State.pc_takeInterrupt, vector_eq]
  case high => simpa using hpushed.high
  case low => simpa using hpushed.low
  case cleared => simpa using hif
  case memory => exact fun k hk => by simpa using hmemory k (by simpa using hk)

/-! ### The divider (R340) -/

section
variable (s : State) (c : Nat)

theorem State.divAcc_dividerAdvance :
    (s.dividerAdvance c).divAcc = if s.divAcc + c ≥ 256 then 0 else s.divAcc + c := by
  rw [State.dividerAdvance_eq]
  split <;> rfl

theorem State.toNat_div_dividerAdvance :
    ((s.dividerAdvance c).memRead Params.div).toNat =
      if s.divAcc + c ≥ 256 then ((s.memRead Params.div).toNat + 1) % 256 else (s.memRead Params.div).toNat := by
  rw [State.dividerAdvance_eq]
  split
  · rw [State.memRead_memWrite_same]
    exact BitVec.toNat_add _ _
  · rfl

end

/-! ### The countdown and TIMA (R341, R342) -/

/-- TIMA steps in this advance: the timer is on and its countdown runs out (R341). -/
def State.TimaTicks (s : State) (c : Nat) : Prop := (s.memRead Params.tac).getLsbD 2 = true ∧ s.countdown - c ≤ 0

section
variable {s : State} {c : Nat}

theorem State.countdownAdvance_tick (h : s.TimaTicks c) :
    s.countdownAdvance c = (s.setCountdown (Params.period (s.memRead Params.tac) : Int)).timaStep := by
  rw [State.countdownAdvance_eq, if_pos h.1, if_pos h.2]

/-- Without a tick the countdown alone can change. -/
theorem State.countdownAdvance_no_tick (h : ¬ s.TimaTicks c) :
    s.countdownAdvance c =
      s.setCountdown (if (s.memRead Params.tac).getLsbD 2 then s.countdown - c else s.countdown) := by
  rw [State.countdownAdvance_eq]
  split
  · next hon => rw [if_neg fun hout => h ⟨hon, hout⟩]
  · rfl

/-- TIMA at 255 is reloaded, and source 2 requested (R342). -/
theorem State.timaStep_reload (hfull : s.memRead Params.tima = 255) :
    s.timaStep.memRead Params.tima = s.memRead Params.tma ∧
      s.timaStep.memRead Params.intFlag = s.memRead Params.intFlag ||| 0x04 := by
  rw [State.timaStep_eq, if_pos hfull, State.memRead_request_other _ _ (by decide), State.memRead_memWrite_same,
    State.memRead_request, if_pos rfl, State.memRead_memWrite_other _ (by decide)]
  exact ⟨rfl, rfl⟩

theorem State.timaStep_increment (hfull : s.memRead Params.tima ≠ 255) :
    s.timaStep.memRead Params.tima = s.memRead Params.tima + 1 ∧
      s.timaStep.memRead Params.intFlag = s.memRead Params.intFlag := by
  rw [State.timaStep_eq, if_neg hfull, State.memRead_memWrite_same, State.memRead_memWrite_other _ (by decide)]
  exact ⟨rfl, rfl⟩

theorem State.countdownAdvance_reload (h : s.TimaTicks c) (hfull : s.memRead Params.tima = 255) :
    (s.countdownAdvance c).memRead Params.tima = s.memRead Params.tma ∧
      (s.countdownAdvance c).memRead Params.intFlag = s.memRead Params.intFlag ||| 0x04 := by
  rw [State.countdownAdvance_tick h]
  exact State.timaStep_reload (s := s.setCountdown _) hfull

theorem State.countdownAdvance_increment (h : s.TimaTicks c) (hfull : s.memRead Params.tima ≠ 255) :
    (s.countdownAdvance c).memRead Params.tima = s.memRead Params.tima + 1 ∧
      (s.countdownAdvance c).memRead Params.intFlag = s.memRead Params.intFlag := by
  rw [State.countdownAdvance_tick h]
  exact State.timaStep_increment (s := s.setCountdown _) hfull

end

/-- The periods by TAC[1:0] (10_state.md R46). -/
theorem period_eq (tac : Byte) :
    (Params.period tac : Int) = match tac.toNat % 4 with | 0 => 1024 | 1 => 16 | 2 => 64 | _ => 256 := by
  revert tac
  decide

/-! ### The whole advance of the timer -/

theorem keepsCpu_timerAdvance (s : State) (c : Nat) : KeepsCpu s (s.timerAdvance c) where
  regs r _ := by cases r <;> simp
  f := by simp
  sp := by simp
  pc := by simp
  numCycles := by simp
  control := by constructor <;> simp

theorem timerAdvance_keepsMemoryBut (s : State) (c : Nat) :
    KeepsMemoryBut [0xFF04, 0xFF05, 0xFF0F] s (s.timerAdvance c) := by
  intro k hk
  obtain ⟨hdiv, htima, hif⟩ : k ≠ 0xFF04 ∧ k ≠ 0xFF05 ∧ k ≠ 0xFF0F := by simpa using hk
  exact State.memRead_timerAdvance_other s c hdiv htima hif

/-- Settles O55: the divider half writes DIV alone, so the timer half reads what stood before the advance. -/
theorem timerAdvances : Obligations.TimerAdvances := by
  intro s c
  obtain ⟨u, hu⟩ : ∃ u, u = s.dividerAdvance c := ⟨_, rfl⟩
  have hread : ∀ k : Word, k ≠ Params.div → u.memRead k = s.memRead k := fun k hk => by
    rw [hu, State.memRead_dividerAdvance_other _ _ hk]
  have htac : u.memRead Params.tac = s.memRead Params.tac := hread _ (by decide)
  have htima : u.memRead Params.tima = s.memRead Params.tima := hread _ (by decide)
  have htma : u.memRead Params.tma = s.memRead Params.tma := hread _ (by decide)
  have hif : u.memRead Params.intFlag = s.memRead Params.intFlag := hread _ (by decide)
  have hcount : u.countdown = s.countdown := by rw [hu, State.countdown_dividerAdvance]
  have hticks : u.TimaTicks c ↔ s.TimaTicks c := by rw [State.TimaTicks, htac, hcount, State.TimaTicks]
  have ht : s.timerAdvance c = u.countdownAdvance c := by rw [hu, State.timerAdvance]
  refine ⟨?divAcc, ?div, fun tick => ?period, fun tick => ?falls, fun tick h => ?reload, fun tick h => ?increment,
    fun tick => ?kept, timerAdvance_keepsMemoryBut s c, keepsCpu_timerAdvance s c, keepsPpu_timerAdvance s c⟩
  case divAcc => rw [ht, State.divAcc_countdownAdvance, hu, State.divAcc_dividerAdvance]
  case div =>
    rw [ht, State.memRead_countdownAdvance_other _ _ (by decide) (by decide), hu]
    exact State.toNat_div_dividerAdvance s c
  case period =>
    rw [ht, State.countdownAdvance_tick (hticks.2 tick), State.countdown_timaStep, htac]
    exact period_eq _
  case falls =>
    rw [ht, State.countdownAdvance_no_tick (mt hticks.1 tick), htac, hcount]
    rfl
  case reload =>
    obtain ⟨hreload, hrequest⟩ := State.countdownAdvance_reload (hticks.2 tick) (htima.trans h)
    rw [ht]
    exact ⟨hreload.trans htma, hrequest.trans (congrArg (· ||| 0x04) hif)⟩
  case increment =>
    obtain ⟨hstep, hkept⟩ := State.countdownAdvance_increment (hticks.2 tick) fun hfull => h (htima.symm.trans hfull)
    rw [ht]
    exact ⟨hstep.trans (congrArg (· + 1) htima), hkept.trans hif⟩
  case kept =>
    rw [ht, State.countdownAdvance_no_tick (mt hticks.1 tick)]
    exact ⟨htima, hif⟩

end Sys2Proof.Machine

/-! The PPU's mode machine (60_exceptions.md R350 to R357): what each of its three parts, the line, the mode and the
line compare, does to its registers, to IF and to the surfaces; then the whole advance. -/

namespace Sys2Proof.Machine

/-! ### The change of line (R352, R353) -/

theorem toNat_nextLine (ly : Byte) : (nextLine ly).toNat = if ly.toNat + 1 > 153 then 0 else ly.toNat + 1 := by
  unfold nextLine
  split
  · rfl
  · rw [BitVec.toNat_add]
    show (ly.toNat + 1) % 256 = _
    omega

theorem nextLine_eq_144_iff (ly : Byte) : nextLine ly = 144 ↔ ly.toNat = 143 := by
  rw [← BitVec.toNat_inj, toNat_nextLine]
  show _ = 144 ↔ _
  split <;> omega

section
variable {s : State}

/-- Line 143 is followed by V-blank. -/
theorem State.lineChange_vblank (h : nextLine (s.memRead Params.ly) = 144) :
    s.lineChange = (s.memWrite Params.ly 144).vblankEntry := by
  have hly := (nextLine_eq_144_iff _).1 h
  rw [State.lineChange_eq, h]
  extract_lets t u
  have hu : u = t := if_neg (by omega)
  rw [hu, if_pos (State.memRead_memWrite_same _ _ _)]

/-- Any other line is followed by the next one, with the count of rows started again at line 0. -/
theorem State.lineChange_no_vblank (h : nextLine (s.memRead Params.ly) ≠ 144) :
    s.lineChange = (s.memWrite Params.ly (nextLine (s.memRead Params.ly))).setLinesRendered
      (if (s.memRead Params.ly).toNat + 1 > 153 then 0 else s.linesRendered) := by
  rw [State.lineChange_eq]
  extract_lets t u
  have hu : u = t.setLinesRendered (if (s.memRead Params.ly).toNat + 1 > 153 then 0 else s.linesRendered) := by
    unfold u
    split <;> rfl
  rw [hu, if_neg]
  rwa [State.memRead_setLinesRendered, State.memRead_memWrite_same]

end

section
variable (s : State)

theorem State.memRead_ly_lineChange : s.lineChange.memRead Params.ly = nextLine (s.memRead Params.ly) := by
  by_cases h : nextLine (s.memRead Params.ly) = 144
  · rw [State.lineChange_vblank h, State.memRead_vblankEntry_other _ (by decide), State.memRead_memWrite_same, h]
  · rw [State.lineChange_no_vblank h, State.memRead_setLinesRendered, State.memRead_memWrite_same]

theorem State.linesRendered_lineChange :
    s.lineChange.linesRendered = if (s.memRead Params.ly).toNat + 1 > 153 then 0 else s.linesRendered := by
  by_cases h : nextLine (s.memRead Params.ly) = 144
  · have hly := (nextLine_eq_144_iff _).1 h
    rw [State.lineChange_vblank h, State.linesRendered_vblankEntry, if_neg (by omega), State.linesRendered_memWrite]
  · rw [State.lineChange_no_vblank h, State.linesRendered_setLinesRendered]

theorem State.getLsbD_vblankEntry (i : Nat) :
    (s.vblankEntry.memRead Params.intFlag).getLsbD i =
      ((s.memRead Params.intFlag).getLsbD i || decide (i = 0)) :=
  iteInduction (motive := fun t : State => (t.memRead Params.intFlag).getLsbD i = _)
    (fun _ => by rw [State.memRead_renderFrame]; exact getLsbD_request s .vblank i)
    (fun _ => getLsbD_request s .vblank i)

/-- The change of line requests source 0 at line 144 (R353). -/
theorem State.getLsbD_lineChange (i : Nat) :
    (s.lineChange.memRead Params.intFlag).getLsbD i =
      ((s.memRead Params.intFlag).getLsbD i || decide (i = 0) && decide (nextLine (s.memRead Params.ly) = 144)) := by
  by_cases h : nextLine (s.memRead Params.ly) = 144
  · rw [State.lineChange_vblank h, State.getLsbD_vblankEntry, State.memRead_memWrite_other _ (by decide),
      decide_eq_true h, Bool.and_true]
  · rw [State.lineChange_no_vblank h, State.memRead_setLinesRendered, State.memRead_memWrite_other _ (by decide),
      decide_eq_false h, Bool.and_false, Bool.or_false]

variable {s}

/-- The frame is rendered as it would be before the change of line: the renderer reads neither LY nor IF. -/
theorem State.lineChange_renders_frame (hrows : s.linesRendered ≤ 144) (h : nextLine (s.memRead Params.ly) = 144) :
    s.lineChange.frames = s.frames + 1 ∧ s.lineChange.frameBuffer = s.renderFrame.frameBuffer ∧
      s.lineChange.sprSurface = s.renderFrame.sprSurface := by
  obtain ⟨u, hu⟩ : ∃ u, u = (s.memWrite Params.ly 144).request .vblank := ⟨_, rfl⟩
  have hv : s.lineChange = u.renderFrame := by
    rw [State.lineChange_vblank h, hu]
    exact if_pos hrows
  have hsame : SameButLine s u := fun k hly _ hif => by
    rw [hu, State.memRead_request_other _ _ hif, State.memRead_memWrite_other _ hly]
  obtain ⟨hspr, hframe⟩ := hsame.renderFrame (by rw [hu]; rfl) (by rw [hu]; rfl)
  rw [hv]
  exact ⟨by rw [hu]; rfl, hframe, hspr⟩

theorem State.lineChange_keeps_frame (h : nextLine (s.memRead Params.ly) ≠ 144) :
    s.lineChange.frames = s.frames ∧ s.lineChange.frameBuffer = s.frameBuffer ∧
      s.lineChange.sprSurface = s.sprSurface := by
  rw [State.lineChange_no_vblank h]
  simp

end

/-! ### The line part of an advance (R351) -/

section
variable {s : State} {c : Nat}

theorem State.lineAdvance_ends (h : s.lineCounter - c ≤ 0) :
    s.lineAdvance c = (s.setLineCounter (s.lineCounter - c + 456)).lineChange := if_pos h

theorem State.lineAdvance_goes_on (h : ¬ s.lineCounter - c ≤ 0) :
    s.lineAdvance c = s.setLineCounter (s.lineCounter - c) := if_neg h

/-- LY becomes 144 in the advance (R352). -/
abbrev State.EntersVblank (s : State) (c : Nat) : Prop := s.lineCounter - c ≤ 0 ∧ LineAfter s c = 144

theorem entersVblank_iff : s.EntersVblank c ↔ s.lineCounter - c ≤ 0 ∧ nextLine (s.memRead Params.ly) = 144 := by
  unfold State.EntersVblank LineAfter
  refine and_congr_right fun h => ?_
  rw [if_pos h, ← BitVec.toNat_inj, toNat_nextLine]
  rfl

theorem State.lineAdvance_renders_frame (hrows : s.linesRendered ≤ 144) (h : s.EntersVblank c) :
    (s.lineAdvance c).frames = s.frames + 1 ∧ (s.lineAdvance c).frameBuffer = s.renderFrame.frameBuffer ∧
      (s.lineAdvance c).sprSurface = s.renderFrame.sprSurface := by
  obtain ⟨hends, h144⟩ := entersVblank_iff.1 h
  rw [State.lineAdvance_ends hends]
  exact State.lineChange_renders_frame (s := s.setLineCounter _) hrows h144

theorem State.lineAdvance_keeps_frame (h : ¬ s.EntersVblank c) :
    (s.lineAdvance c).frames = s.frames ∧ (s.lineAdvance c).frameBuffer = s.frameBuffer ∧
      (s.lineAdvance c).sprSurface = s.sprSurface := by
  by_cases hends : s.lineCounter - c ≤ 0
  · rw [State.lineAdvance_ends hends]
    exact State.lineChange_keeps_frame (s := s.setLineCounter _) fun h144 => h (entersVblank_iff.2 ⟨hends, h144⟩)
  · rw [State.lineAdvance_goes_on hends]
    exact ⟨rfl, rfl, rfl⟩

end

section
variable (s : State) (c : Nat)

theorem State.lineCounter_lineAdvance : (s.lineAdvance c).lineCounter = CounterAfter s c := by
  unfold CounterAfter
  split
  case isTrue h => rw [State.lineAdvance_ends h, State.lineCounter_lineChange, State.lineCounter_setLineCounter]
  case isFalse h => rw [State.lineAdvance_goes_on h, State.lineCounter_setLineCounter]

theorem State.toNat_ly_lineAdvance : ((s.lineAdvance c).memRead Params.ly).toNat = LineAfter s c := by
  unfold LineAfter
  split
  case isTrue h =>
    rw [State.lineAdvance_ends h, State.memRead_ly_lineChange, toNat_nextLine]
    rfl
  case isFalse h =>
    rw [State.lineAdvance_goes_on h]
    rfl

/-- The count of rows in the pass that the advance is in: it starts again at line 0 (R352). -/
def State.rowsBefore : Nat :=
  if s.lineCounter - c ≤ 0 ∧ (s.memRead Params.ly).toNat + 1 > 153 then 0 else s.linesRendered

theorem State.linesRendered_lineAdvance : (s.lineAdvance c).linesRendered = s.rowsBefore c := by
  by_cases hends : s.lineCounter - c ≤ 0
  · rw [State.lineAdvance_ends hends, State.linesRendered_lineChange, State.rowsBefore]
    simp only [hends, true_and]
    rfl
  · rw [State.lineAdvance_goes_on hends, State.rowsBefore, if_neg fun h => hends h.1]
    rfl

theorem State.getLsbD_lineAdvance (i : Nat) :
    ((s.lineAdvance c).memRead Params.intFlag).getLsbD i =
      ((s.memRead Params.intFlag).getLsbD i || decide (i = 0) && decide (s.EntersVblank c)) := by
  by_cases hends : s.lineCounter - c ≤ 0
  · have hiff : nextLine (s.memRead Params.ly) = 144 ↔ s.EntersVblank c := by
      rw [entersVblank_iff, and_iff_right hends]
    rw [State.lineAdvance_ends hends, State.getLsbD_lineChange, ← decide_eq_decide.2 hiff]
    rfl
  · rw [State.lineAdvance_goes_on hends, decide_eq_false fun h : s.EntersVblank c => hends h.1, Bool.and_false,
      Bool.or_false]
    rfl

end

/-! ### The mode part of an advance (R354 to R356) -/

/-- The mode by the line and the cycles elapsed in it. -/
def State.dueMode (s : State) : LcdMode := modeOf (s.memRead Params.ly) s.lineCounter

/-- The advance changes into H-blank of a visible line, with a row left to render (R355). -/
def State.RendersRow (s : State) : Prop := s.dueMode = .hblank ∧ s.mode ≠ .hblank ∧ s.linesRendered < 144

theorem toNat_modeCode_modeOf (ly : Byte) (lc : Int) :
    (modeCode (modeOf ly lc)).toNat =
      if ly.toNat ≥ 144 then 1 else if 456 - lc < 80 then 2 else if 456 - lc < 252 then 3 else 0 := by
  unfold modeOf
  split_ifs <;> rfl

/-- The mode due once the line part is done. -/
theorem toNat_modeCode_dueMode (s : State) (c : Nat) : (modeCode (s.lineAdvance c).dueMode).toNat = ModeAfter s c := by
  rw [State.dueMode, toNat_modeCode_modeOf, State.toNat_ly_lineAdvance, State.lineCounter_lineAdvance, ModeAfter]

theorem modeCode_toNat_inj {m n : LcdMode} : (modeCode m).toNat = (modeCode n).toNat ↔ m = n := by
  cases m <;> cases n <;> decide

/-- H-blank is a mode of visible lines alone (R354). -/
theorem lt_144_of_modeOf_hblank {ly : Byte} {lc : Int} (h : modeOf ly lc = .hblank) : ly.toNat < 144 := by
  by_contra hge
  rw [modeOf, if_pos (Nat.le_of_not_lt hge)] at h
  cases h

section
variable (s : State) (m : LcdMode)

/-- The state in which a mode change renders its row, if any: the mode written and source 1 requested if enabled. -/
def State.modeRequested : State :=
  if modeEnabled m (s.memRead Params.stat) then (s.setMode m).request .lcdStat else s.setMode m

theorem State.modeChange_eq_ite :
    s.modeChange m =
      if m = .hblank ∧ (s.memRead Params.ly).toNat < 144 ∧ s.linesRendered < 144 then
        ((s.modeRequested m).renderLine (s.memRead Params.ly).toNat).setLinesRendered (s.linesRendered + 1)
      else s.modeRequested m := by
  have hly : (s.modeRequested m).memRead Params.ly = s.memRead Params.ly := by
    unfold State.modeRequested
    split
    · exact State.memRead_request_other _ _ (by decide)
    · rfl
  have hrows : (s.modeRequested m).linesRendered = s.linesRendered := by
    unfold State.modeRequested
    split <;> rfl
  rw [← hly, ← hrows]
  rfl

theorem State.getLsbD_modeRequested (i : Nat) :
    ((s.modeRequested m).memRead Params.intFlag).getLsbD i =
      ((s.memRead Params.intFlag).getLsbD i || decide (i = 1) && modeEnabled m (s.memRead Params.stat)) := by
  unfold State.modeRequested
  split
  case isTrue h => rw [getLsbD_request, h, Bool.and_true]; rfl
  case isFalse h => rw [Bool.eq_false_iff.2 h, Bool.and_false, Bool.or_false]; rfl

theorem State.getLsbD_modeChange (i : Nat) :
    ((s.modeChange m).memRead Params.intFlag).getLsbD i =
      ((s.memRead Params.intFlag).getLsbD i || decide (i = 1) && modeEnabled m (s.memRead Params.stat)) := by
  rw [← State.getLsbD_modeRequested, State.modeChange_eq_ite]
  split
  · rw [State.memRead_setLinesRendered, State.memRead_renderLine]
  · rfl

/-- The row is rendered as it would be before the request: the renderer does not read IF. -/
theorem State.modeRequested_renders (ly : Nat) (hly : ly < 256) :
    ((s.modeRequested m).renderLine ly).bgSurface = (s.renderLine ly).bgSurface ∧
      ((s.modeRequested m).renderLine ly).winSurface = (s.renderLine ly).winSurface := by
  unfold State.modeRequested
  split
  · have hsame : SameButLine s ((s.setMode m).request .lcdStat) := fun k _ _ hif =>
      State.memRead_request_other _ _ hif
    exact hsame.renderLine hly rfl rfl
  · exact ⟨rfl, rfl⟩

/-- The state with the due mode entered, before STAT shows it. -/
def State.modeEntered : State := if s.dueMode ≠ s.mode then s.modeChange s.dueMode else s

@[simp] theorem State.mode_modeEntered : s.modeEntered.mode = s.dueMode := by
  unfold State.modeEntered
  split
  case isTrue => exact State.mode_modeChange s _
  case isFalse h => exact (not_not.1 h).symm

theorem State.memRead_modeEntered_other {k : Word} (hif : k ≠ Params.intFlag) :
    s.modeEntered.memRead k = s.memRead k := by
  unfold State.modeEntered
  split
  · exact State.memRead_modeChange_other _ _ hif
  · rfl

theorem State.modeAdvance_eq_memWrite :
    s.modeAdvance = s.modeEntered.memWrite Params.stat ((s.memRead Params.stat &&& 0xFC) ||| modeCode s.dueMode) := by
  rw [← State.memRead_modeEntered_other s (k := Params.stat) (by decide), ← State.mode_modeEntered]
  rfl

theorem State.mode_modeAdvance : s.modeAdvance.mode = s.dueMode := by
  rw [State.modeAdvance_eq_memWrite, State.mode_memWrite, State.mode_modeEntered]

theorem State.memRead_stat_modeAdvance :
    s.modeAdvance.memRead Params.stat = (s.memRead Params.stat &&& 0xFC) ||| modeCode s.dueMode := by
  rw [State.modeAdvance_eq_memWrite, State.memRead_memWrite_same]

/-- A change of mode requests source 1 where STAT enables it (R355). -/
theorem State.getLsbD_modeAdvance (i : Nat) :
    (s.modeAdvance.memRead Params.intFlag).getLsbD i =
      ((s.memRead Params.intFlag).getLsbD i ||
        decide (i = 1) && (decide (s.dueMode ≠ s.mode) && modeEnabled s.dueMode (s.memRead Params.stat))) := by
  rw [State.modeAdvance_eq_memWrite, State.memRead_memWrite_other _ (by decide), State.modeEntered]
  split
  case isTrue h => rw [State.getLsbD_modeChange, decide_eq_true h, Bool.true_and]
  case isFalse h => rw [decide_eq_false h, Bool.false_and, Bool.and_false, Bool.or_false]

variable {s}

theorem State.modeAdvance_renders_row (h : s.RendersRow) :
    s.modeAdvance.linesRendered = s.linesRendered + 1 ∧
      s.modeAdvance.bgSurface = (s.renderLine (s.memRead Params.ly).toNat).bgSurface ∧
      s.modeAdvance.winSurface = (s.renderLine (s.memRead Params.ly).toNat).winSurface := by
  obtain ⟨hdue, hmode, hrows⟩ := h
  have hly : (s.memRead Params.ly).toNat < 144 := lt_144_of_modeOf_hblank hdue
  have hentered : s.modeEntered =
      ((s.modeRequested .hblank).renderLine (s.memRead Params.ly).toNat).setLinesRendered (s.linesRendered + 1) := by
    rw [State.modeEntered, hdue, if_pos hmode.symm, State.modeChange_eq_ite, if_pos ⟨rfl, hly, hrows⟩]
  rw [State.modeAdvance_eq_memWrite, hentered]
  simpa using State.modeRequested_renders s .hblank _ (by omega)

theorem State.modeAdvance_keeps_rows (h : ¬ s.RendersRow) :
    s.modeAdvance.linesRendered = s.linesRendered ∧ s.modeAdvance.bgSurface = s.bgSurface ∧
      s.modeAdvance.winSurface = s.winSurface := by
  rw [State.modeAdvance_eq_memWrite, State.modeEntered]
  split
  case isTrue hchange =>
    have hno : ¬ (s.dueMode = .hblank ∧ (s.memRead Params.ly).toNat < 144 ∧ s.linesRendered < 144) :=
      fun ⟨hdue, _, hrows⟩ => h ⟨hdue, fun hmode => hchange (hdue.trans hmode.symm), hrows⟩
    rw [State.modeChange_eq_ite, if_neg hno, State.modeRequested]
    split <;> simp
  case isFalse => simp

end

/-! ### The line compare (R357) -/

section
variable (s : State)

theorem State.memRead_stat_lineCompare :
    s.lineCompare.memRead Params.stat =
      if s.memRead Params.ly = s.memRead Params.lyc then s.memRead Params.stat ||| 0x04
      else s.memRead Params.stat &&& 0xFB := by
  rw [State.lineCompare_eq]
  split
  case isTrue =>
    extract_lets t
    have ht : t.memRead Params.stat = s.memRead Params.stat ||| 0x04 := State.memRead_memWrite_same _ _ _
    split
    · rw [State.memRead_request_other _ _ (by decide), ht]
    · exact ht
  case isFalse => exact State.memRead_memWrite_same _ _ _

theorem State.getLsbD_lineCompare (i : Nat) :
    (s.lineCompare.memRead Params.intFlag).getLsbD i =
      ((s.memRead Params.intFlag).getLsbD i ||
        decide (i = 1) &&
          (decide (s.memRead Params.ly = s.memRead Params.lyc) && (s.memRead Params.stat).getLsbD 6)) := by
  rw [State.lineCompare_eq]
  split
  case isTrue hmatch =>
    extract_lets t
    have hstat : (t.memRead Params.stat).getLsbD 6 = (s.memRead Params.stat).getLsbD 6 := by
      rw [State.memRead_memWrite_same, BitVec.getLsbD_or]
      exact Bool.or_false _
    have hif : t.memRead Params.intFlag = s.memRead Params.intFlag := State.memRead_memWrite_other _ (by decide) _
    rw [hstat, decide_eq_true hmatch, Bool.true_and]
    split
    case isTrue h => rw [getLsbD_request, hif, h, Bool.and_true]; rfl
    case isFalse h => rw [Bool.eq_false_iff.2 h, Bool.and_false, Bool.or_false, hif]
  case isFalse hmatch =>
    rw [decide_eq_false hmatch, Bool.false_and, Bool.and_false, Bool.or_false,
      State.memRead_memWrite_other _ (by decide)]

end

/-! ### The whole advance (R350) -/

section
variable (s : State) (c : Nat)

theorem State.memRead_stat_lineAdvance : (s.lineAdvance c).memRead Params.stat = s.memRead Params.stat :=
  State.memRead_lineAdvance_other s c (by decide) (by decide)

theorem State.toNat_ly_ppuAdvance : ((s.ppuAdvance c).memRead Params.ly).toNat = LineAfter s c := by
  rw [State.ppuAdvance_eq, State.memRead_lineCompare_other _ (by decide) (by decide),
    State.memRead_modeAdvance_other _ (by decide) (by decide), State.toNat_ly_lineAdvance]

/-- What the line compare of the advance finds (R357). -/
theorem lineMatch_iff :
    (s.lineAdvance c).modeAdvance.memRead Params.ly = (s.lineAdvance c).modeAdvance.memRead Params.lyc ↔
      LineAfter s c = (s.memRead Params.lyc).toNat := by
  rw [State.memRead_modeAdvance_other _ (by decide) (by decide),
    State.memRead_modeAdvance_other _ (by decide) (by decide),
    State.memRead_lineAdvance_other _ _ (k := Params.lyc) (by decide) (by decide), ← BitVec.toNat_inj,
    State.toNat_ly_lineAdvance]

end

/-- The STAT byte of a mode and of a line compare's result, from the byte `v` before (R356, R357). -/
def statOf (v : Byte) (m : LcdMode) (lineMatches : Bool) : Byte :=
  if lineMatches then ((v &&& 0xFC) ||| modeCode m) ||| 0x04 else ((v &&& 0xFC) ||| modeCode m) &&& 0xFB

/-- Its fields (10_state.md R48). -/
theorem statOf_fields (v : Byte) (m : LcdMode) (lineMatches : Bool) :
    (statOf v m lineMatches).toNat % 4 = (modeCode m).toNat ∧ (statOf v m lineMatches).getLsbD 2 = lineMatches ∧
      (statOf v m lineMatches).toNat / 8 = v.toNat / 8 := by
  revert v
  cases m <;> cases lineMatches <;> decide

section
variable (s : State) (c : Nat)

theorem State.memRead_stat_ppuAdvance :
    (s.ppuAdvance c).memRead Params.stat =
      statOf (s.memRead Params.stat) (s.lineAdvance c).dueMode
        (decide (LineAfter s c = (s.memRead Params.lyc).toNat)) := by
  rw [State.ppuAdvance_eq, State.memRead_stat_lineCompare, State.memRead_stat_modeAdvance,
    State.memRead_stat_lineAdvance, statOf]
  simp only [lineMatch_iff, decide_eq_true_eq]

theorem State.mode_ppuAdvance : (s.ppuAdvance c).mode = (s.lineAdvance c).dueMode := by
  rw [State.ppuAdvance_eq, State.mode_lineCompare, State.mode_modeAdvance]

theorem ppuAdvance_keepsMemoryBut : KeepsMemoryBut [0xFF41, 0xFF44, 0xFF0F] s (s.ppuAdvance c) := by
  intro k hk
  obtain ⟨hstat, hly, hif⟩ : k ≠ 0xFF41 ∧ k ≠ 0xFF44 ∧ k ≠ 0xFF0F := by simpa using hk
  exact State.memRead_ppuAdvance_other s c hstat hly hif

theorem keepsCpu_ppuAdvance : KeepsCpu s (s.ppuAdvance c) where
  regs r _ := by cases r <;> simp
  f := by simp
  sp := by simp
  pc := by simp
  numCycles := by simp
  control := by constructor <;> simp

theorem keepsTimer_ppuAdvance : KeepsTimer s (s.ppuAdvance c) := by constructor <;> simp

end

/-- Settles O56: the line part settles the counter and LY, the mode part the mode, and the last two parts write STAT. -/
theorem ppuLineModeStat : Obligations.PpuLineModeStat := by
  intro s c
  obtain ⟨hmode, hmatch, hkept⟩ := statOf_fields (s.memRead Params.stat) (s.lineAdvance c).dueMode
    (decide (LineAfter s c = (s.memRead Params.lyc).toNat))
  rw [← State.memRead_stat_ppuAdvance] at hmode hmatch hkept
  refine ⟨?counter, State.toNat_ly_ppuAdvance s c, ?mode, hmode.trans (toNat_modeCode_dueMode s c), hmatch, hkept,
    ppuAdvance_keepsMemoryBut s c, keepsCpu_ppuAdvance s c, keepsTimer_ppuAdvance s c⟩
  case counter =>
    rw [State.ppuAdvance_eq, State.lineCounter_lineCompare, State.lineCounter_modeAdvance,
      State.lineCounter_lineAdvance]
  case mode => rw [State.mode_ppuAdvance, toNat_modeCode_dueMode]

/-! ### What the advance requests -/

/-- STAT's enable bits by the modes' numbers (10_state.md R48, R50). -/
theorem modeEnabled_eq (m : LcdMode) (stat : Byte) :
    modeEnabled m stat =
      (decide ((modeCode m).toNat = 0) && stat.getLsbD 3 || decide ((modeCode m).toNat = 1) && stat.getLsbD 4 ||
        decide ((modeCode m).toNat = 2) && stat.getLsbD 5) := by
  cases m <;> simp [modeEnabled, modeCode]

/-- The mode part leaves STAT's bit 6 alone. -/
theorem State.getLsbD_stat_modeAdvance (s : State) :
    (s.modeAdvance.memRead Params.stat).getLsbD 6 = (s.memRead Params.stat).getLsbD 6 := by
  rw [State.memRead_stat_modeAdvance]
  generalize s.memRead Params.stat = v
  revert v
  cases s.dueMode <;> decide

/-- The request of a change into mode 0, 1 or 2, by the modes' numbers (R355). -/
theorem modeRequest_eq (s : State) (c : Nat) (stat : Byte) :
    (decide ((s.lineAdvance c).dueMode ≠ s.mode) && modeEnabled (s.lineAdvance c).dueMode stat) =
      (decide (ModeAfter s c ≠ (modeCode s.mode).toNat) &&
        (decide (ModeAfter s c = 0) && stat.getLsbD 3 || decide (ModeAfter s c = 1) && stat.getLsbD 4 ||
          decide (ModeAfter s c = 2) && stat.getLsbD 5)) := by
  have hne : (s.lineAdvance c).dueMode ≠ s.mode ↔ ModeAfter s c ≠ (modeCode s.mode).toNat := by
    rw [← toNat_modeCode_dueMode]
    exact not_congr modeCode_toNat_inj.symm
  rw [decide_eq_decide.2 hne, modeEnabled_eq, toNat_modeCode_dueMode]

/-- Settles O57: each part of the advance requests at most one source, and the enable bits are those before the
advance. -/
theorem ppuRequests : Obligations.PpuRequests := by
  intro s c t stat m vblank enter compare i
  have hparts := State.getLsbD_lineCompare (s.lineAdvance c).modeAdvance i
  rw [State.getLsbD_modeAdvance, State.getLsbD_lineAdvance, State.getLsbD_stat_modeAdvance,
    State.memRead_stat_lineAdvance, State.mode_lineAdvance, modeRequest_eq, decide_eq_decide.2 (lineMatch_iff s c),
    Bool.or_assoc, ← Bool.and_or_distrib_left] at hparts
  exact hparts

/-! ### When the advance renders -/

section
variable {s : State} {c : Nat}

theorem sameButLine_lineAdvance (s : State) (c : Nat) : SameButLine s (s.lineAdvance c) := fun _ hly _ hif =>
  State.memRead_lineAdvance_other s c hly hif

/-- The advance renders a row just if its mode part does. -/
theorem rendersRow_lineAdvance_iff :
    (s.lineAdvance c).RendersRow ↔ ModeAfter s c = 0 ∧ s.mode ≠ .hblank ∧ s.rowsBefore c < 144 := by
  rw [State.RendersRow, State.mode_lineAdvance, State.linesRendered_lineAdvance, ← toNat_modeCode_dueMode,
    ← modeCode_toNat_inj]
  rfl

/-- The row is rendered as it would be before the advance: the renderer reads neither LY nor IF. -/
theorem State.ppuAdvance_renders_row (h : (s.lineAdvance c).RendersRow) :
    (s.ppuAdvance c).linesRendered = s.rowsBefore c + 1 ∧
      (s.ppuAdvance c).bgSurface = (s.renderLine (LineAfter s c)).bgSurface ∧
      (s.ppuAdvance c).winSurface = (s.renderLine (LineAfter s c)).winSurface := by
  obtain ⟨hrows, hbg, hwin⟩ := State.modeAdvance_renders_row h
  rw [State.toNat_ly_lineAdvance] at hbg hwin
  have hline : LineAfter s c < 256 := State.toNat_ly_lineAdvance s c ▸ BitVec.isLt _
  obtain ⟨hbg', hwin'⟩ := (sameButLine_lineAdvance s c).renderLine hline (State.bgSurface_lineAdvance s c)
    (State.winSurface_lineAdvance s c)
  rw [State.ppuAdvance_eq, State.linesRendered_lineCompare, State.bgSurface_lineCompare, State.winSurface_lineCompare]
  exact ⟨by rw [hrows, State.linesRendered_lineAdvance], hbg.trans hbg', hwin.trans hwin'⟩

theorem State.ppuAdvance_keeps_rows (h : ¬ (s.lineAdvance c).RendersRow) :
    (s.ppuAdvance c).linesRendered = s.rowsBefore c ∧ (s.ppuAdvance c).bgSurface = s.bgSurface ∧
      (s.ppuAdvance c).winSurface = s.winSurface := by
  obtain ⟨hrows, hbg, hwin⟩ := State.modeAdvance_keeps_rows h
  rw [State.ppuAdvance_eq, State.linesRendered_lineCompare, State.bgSurface_lineCompare, State.winSurface_lineCompare,
    hrows, hbg, hwin]
  exact ⟨State.linesRendered_lineAdvance s c, State.bgSurface_lineAdvance s c, State.winSurface_lineAdvance s c⟩

theorem State.ppuAdvance_renders_frame (hrows : s.linesRendered ≤ 144) (h : s.EntersVblank c) :
    (s.ppuAdvance c).frames = s.frames + 1 ∧ (s.ppuAdvance c).frameBuffer = s.renderFrame.frameBuffer ∧
      (s.ppuAdvance c).sprSurface = s.renderFrame.sprSurface := by
  simpa [State.ppuAdvance_eq] using State.lineAdvance_renders_frame hrows h

theorem State.ppuAdvance_keeps_frame (h : ¬ s.EntersVblank c) :
    (s.ppuAdvance c).frames = s.frames ∧ (s.ppuAdvance c).frameBuffer = s.frameBuffer ∧
      (s.ppuAdvance c).sprSurface = s.sprSurface := by
  simpa [State.ppuAdvance_eq] using State.lineAdvance_keeps_frame h

end

/-- Settles O58: the line part renders the frame, at line 144, and the mode part the row, on entering H-blank. -/
theorem ppuRenders : Obligations.PpuRenders := by
  intro s c hrows
  refine ⟨?count, fun h => (State.ppuAdvance_keeps_frame h).2, fun h => (State.ppuAdvance_renders_frame hrows h).2,
    fun row => State.ppuAdvance_renders_row (rendersRow_lineAdvance_iff.2 row),
    fun row => State.ppuAdvance_keeps_rows (mt rendersRow_lineAdvance_iff.1 row)⟩
  case count =>
    split
    case isTrue h => exact (State.ppuAdvance_renders_frame hrows h).1
    case isFalse h => exact (State.ppuAdvance_keeps_frame h).1

end Sys2Proof.Machine

/-! The renderer in plain arithmetic (60_exceptions.md R359 to R365): the tile fetch, a plane's pixel and a sprite's, as
the numbers that the statements speak of; then a rendered row and a composed frame. -/

namespace Sys2Proof.Machine

/-! ### Bits and bytes as numbers -/

theorem getLsbD_eq_decide (v : Byte) (i : Nat) : v.getLsbD i = decide (v.toNat / 2 ^ i % 2 = 1) :=
  Nat.testBit_eq_decide_div_mod_eq

/-- A byte of memory, as the number at the address. -/
theorem State.toNat_memRead_add (s : State) (addr : Word) (n : Nat) :
    (s.memRead (addr + BitVec.ofNat 16 n)).toNat = s.num (addr.toNat + n) := by
  rw [State.num, BitVec.ofNat_add, BitVec.ofNat_toNat, BitVec.setWidth_eq]

theorem toNat_two_bits (x y : Nat) :
    (BitVec.ofBool (decide (x % 2 = 1)) ++ BitVec.ofBool (decide (y % 2 = 1)) : Shade).toNat = 2 * (x % 2) + y % 2 := by
  obtain hx | hx := Nat.mod_two_eq_zero_or_one x <;> obtain hy | hy := Nat.mod_two_eq_zero_or_one y <;>
    rw [hx, hy] <;> rfl

/-! ### Tile fetch (R359) -/

theorem toNat_shade (pal : Byte) (ci : Shade) : (shade pal ci).toNat = paletteEntry pal.toNat ci.toNat := by
  revert pal ci
  decide

theorem State.toNat_tilePixel (s : State) (addr : Word) (row col : Nat) :
    (s.tilePixel addr row col).toNat = s.colourIndex addr.toNat row col := by
  unfold State.tilePixel
  dsimp only
  rw [getLsbD_eq_decide, getLsbD_eq_decide, toNat_two_bits, State.toNat_memRead_add, State.toNat_memRead_add]
  rfl

theorem State.getLsbD_lcdc (s : State) (i : Nat) :
    (s.memRead Params.lcdc).getLsbD i = decide (s.num 0xFF40 / 2 ^ i % 2 = 1) := getLsbD_eq_decide _ i

theorem toNat_unsignedTile (idx : Byte) : (0x8000 + 16 * idx.setWidth 16 : Word).toNat = 0x8000 + 16 * idx.toNat := by
  revert idx
  decide

theorem toNat_signedTile (idx : Byte) :
    (0x9000 + 16 * idx.signExtend 16 : Word).toNat =
      if idx.toNat < 128 then 0x9000 + 16 * idx.toNat else 0x9000 + 16 * idx.toNat - 16 * 256 := by
  revert idx
  decide

theorem State.toNat_tileAddr (s : State) (idx : Byte) : (s.tileAddr idx).toNat = s.mapTileAddr idx.toNat := by
  have hbit : (s.memRead Params.lcdc).getLsbD 4 = decide (s.num 0xFF40 / 16 % 2 = 1) := s.getLsbD_lcdc 4
  rw [State.tileAddr_eq, State.mapTileAddr, hbit]
  simp only [decide_eq_true_eq]
  split
  · exact toNat_unsignedTile idx
  · exact toNat_signedTile idx

/-! ### Background and window (R360, R361) -/

theorem State.toNat_mapPixel (s : State) (map : Word) (px py : Nat) :
    (s.mapPixel map px py).toNat = s.planeShade map.toNat px py := by
  unfold State.mapPixel
  dsimp only
  rw [toNat_shade, State.toNat_tilePixel, State.toNat_tileAddr, State.toNat_memRead_add, ← Nat.add_assoc]
  rfl

theorem State.toNat_tileMap (s : State) (bit : Nat) :
    (s.tileMap bit).toNat = if s.num 0xFF40 / 2 ^ bit % 2 = 1 then 0x9C00 else 0x9800 := by
  rw [State.tileMap_eq, State.getLsbD_lcdc]
  simp only [decide_eq_true_eq]
  split <;> rfl

theorem State.toNat_bgPixel (s : State) (ly x : Nat) :
    (s.bgPixel ly x).toNat =
      s.planeShade (if s.num 0xFF40 / 8 % 2 = 1 then 0x9C00 else 0x9800) ((s.num 0xFF43 + x) % 256)
        ((s.num 0xFF42 + ly) % 256) := by
  rw [State.bgPixel, State.toNat_mapPixel, State.toNat_tileMap]
  rfl

/-- The window is drawn on line `ly`. -/
def State.WindowShown (s : State) (ly : Nat) : Prop := s.num 0xFF40 / 32 % 2 = 1 ∧ s.num 0xFF4A ≤ ly

theorem State.windowOn_iff (s : State) (ly : Nat) : s.windowOn ly = true ↔ s.WindowShown ly := by
  rw [State.windowOn_eq, State.getLsbD_lcdc, Bool.and_eq_true, decide_eq_true_iff, decide_eq_true_iff]
  rfl

/-- Window column `i` lies at screen column `WX - 7 + i`. -/
theorem State.winCell_of_shown {s : State} {ly x i : Nat} (hshown : s.WindowShown ly) (hi : i < 160)
    (hx : (x : Int) = (s.num 0xFF4B : Int) - 7 + i) :
    s.winCell ly x = some (s.mapPixel (s.tileMap 6) i (ly - s.num 0xFF4A)) := by
  have hwx : (s.memRead Params.wx).toNat = s.num 0xFF4B := rfl
  have hcol : x + 7 - s.num 0xFF4B = i := by omega
  have hdrawn : s.windowOn ly ∧ s.num 0xFF4B ≤ x + 7 ∧ x + 7 - s.num 0xFF4B < Config.screenWidth :=
    ⟨(s.windowOn_iff ly).2 hshown, by omega, by rw [hcol]; exact hi⟩
  rw [State.winCell_eq, hwx, if_pos hdrawn, hcol]
  rfl

theorem State.winCell_of_not_shown {s : State} {ly x : Nat}
    (h : ¬ (s.WindowShown ly ∧ ∃ i : Nat, i < 160 ∧ (x : Int) = (s.num 0xFF4B : Int) - 7 + i)) :
    s.winCell ly x = none := by
  rw [State.winCell_eq]
  refine if_neg fun ⟨hon, hleft, hright⟩ => h ⟨(s.windowOn_iff ly).1 hon, x + 7 - s.num 0xFF4B, hright, ?_⟩
  have hwx : (s.memRead Params.wx).toNat = s.num 0xFF4B := rfl
  omega

/-- Settles O59: the row holds the background and window pixels of the line, the surfaces' other rows are kept. -/
theorem rowRendered : Obligations.RowRendered := by
  intro s ly x hsized hly hx
  have hbg : ∀ dflt, (s.renderLine ly).bgSurface.cell dflt x ly = s.bgPixel ly x := fun dflt =>
    Surface.cell_set_same _ dflt hx (hsized.bg.1.symm ▸ hly)
  have hwin : ∀ dflt, (s.renderLine ly).winSurface.cell dflt x ly = s.winCell ly x := fun dflt =>
    Surface.cell_set_same _ dflt hx (hsized.win.1.symm ▸ hly)
  refine ⟨?bg, fun i hi hshown hcol => ⟨s.mapPixel (s.tileMap 6) i (ly - s.num 0xFF4A), ?drawn, ?shade⟩,
    fun h => ?clear, fun y hy => ⟨Surface.cell_set_other _ _ hy, Surface.cell_set_other _ _ hy⟩⟩
  case bg => rw [hbg, State.toNat_bgPixel]
  case drawn => rw [hwin, State.winCell_of_shown hshown hi hcol]
  case shade =>
    rw [State.toNat_mapPixel, State.toNat_tileMap]
    rfl
  case clear => rw [hwin, State.winCell_of_not_shown h]

/-! ### Sprites (R363) -/

theorem State.toNat_oamByte (s : State) (slot k : Nat) : (s.oamByte slot k).toNat = s.num (0xFE00 + 4 * slot + k) := by
  rw [State.oamByte, State.toNat_memRead_add, Nat.add_assoc]
  rfl

theorem State.getLsbD_oamByte (s : State) (slot k i : Nat) :
    (s.oamByte slot k).getLsbD i = decide (s.num (0xFE00 + 4 * slot + k) / 2 ^ i % 2 = 1) := by
  rw [getLsbD_eq_decide, State.toNat_oamByte]

theorem State.spriteHeight_eq_num (s : State) : s.spriteHeight = if s.num 0xFF40 / 4 % 2 = 1 then 16 else 8 := by
  have hbit : (s.memRead Params.lcdc).getLsbD 2 = decide (s.num 0xFF40 / 4 % 2 = 1) := s.getLsbD_lcdc 2
  rw [State.spriteHeight_eq, hbit]
  simp only [decide_eq_true_eq]

theorem toNat_spriteTile (height line : Nat) (t : Byte) :
    (spriteTile height line t).toNat =
      if height = 16 then t.toNat / 2 * 2 + (if line ≥ 8 then 1 else 0) else t.toNat := by
  have hupper : ∀ t : Byte, ((t &&& 0xFE) ||| 1).toNat = t.toNat / 2 * 2 + 1 := by decide
  have hlower : ∀ t : Byte, ((t &&& 0xFE) ||| 0).toNat = t.toNat / 2 * 2 + 0 := by decide
  unfold spriteTile
  split
  · split
    · exact hupper t
    · exact hlower t
  · rfl

/-- The colour index of a slot in row `r`, column `c` of its rectangle, as a number (R363). -/
def State.spriteColour (s : State) (slot r c : Nat) : Nat :=
  let attr := s.num (0xFE00 + 4 * slot + 3)
  let h := if s.num 0xFF40 / 4 % 2 = 1 then 16 else 8
  let line := if attr / 64 % 2 = 1 then h - 1 - r else r
  let t := s.num (0xFE00 + 4 * slot + 2)
  let tile := if h = 16 then t / 2 * 2 + (if line ≥ 8 then 1 else 0) else t
  s.colourIndex (0x8000 + 16 * tile) (line % 8) (if attr / 32 % 2 = 1 then 7 - c else c)

theorem State.toNat_spriteIndex (s : State) (slot r c : Nat) :
    (s.spriteIndex slot r c).toNat = s.spriteColour slot r c := by
  have hattr : ∀ i, (s.oamByte slot 3).getLsbD i = decide (s.num (0xFE00 + 4 * slot + 3) / 2 ^ i % 2 = 1) :=
    s.getLsbD_oamByte slot 3
  unfold State.spriteIndex
  dsimp only
  rw [State.toNat_tilePixel, toNat_unsignedTile, toNat_spriteTile, State.toNat_oamByte, s.spriteHeight_eq_num,
    hattr, hattr]
  simp only [decide_eq_true_eq]
  rfl

theorem State.under_eq (s : State) (x y : Nat) :
    s.under x y = (s.winSurface.cell none x y).getD (s.bgSurface.cell 0 x y) := by
  unfold State.under
  split
  · next v h => rw [h]; rfl
  · next h => rw [h]; rfl

/-- The palette register a slot's attributes select. -/
theorem State.toNat_spritePalette (s : State) (slot : Nat) :
    (s.memRead (if (s.oamByte slot 3).getLsbD 4 then Params.obp1 else Params.obp0)).toNat =
      s.num (if s.num (0xFE00 + 4 * slot + 3) / 16 % 2 = 1 then 0xFF49 else 0xFF48) := by
  have hbit : (s.oamByte slot 3).getLsbD 4 = decide (s.num (0xFE00 + 4 * slot + 3) / 16 % 2 = 1) :=
    s.getLsbD_oamByte slot 3 4
  rw [hbit]
  simp only [decide_eq_true_eq]
  split <;> rfl

/-- The slot's priority bit. -/
theorem State.spritePriority_iff (s : State) (slot : Nat) :
    (s.oamByte slot 3).getLsbD 7 = true ↔ s.num (0xFE00 + 4 * slot + 3) / 128 = 1 := by
  have hlt : s.num (0xFE00 + 4 * slot + 3) < 256 := BitVec.isLt _
  rw [State.getLsbD_oamByte, decide_eq_true_iff]
  omega

/-- The statement's notion of drawing, in the model's own terms. -/
theorem spriteDraws_iff (s : State) (slot x y : Nat) (v : Shade) :
    SpriteDraws s slot x y v ↔
      ∃ r c, r < s.spriteHeight ∧ c < 8 ∧ y + 16 = (s.oamByte slot 0).toNat + r ∧
        x + 8 = (s.oamByte slot 1).toNat + c ∧ s.spriteIndex slot r c ≠ 0 ∧
        ¬ ((s.oamByte slot 3).getLsbD 7 = true ∧ s.under x y ≠ 0) ∧
        v = shade (s.memRead (if (s.oamByte slot 3).getLsbD 4 then Params.obp1 else Params.obp0))
          (s.spriteIndex slot r c) := by
  have hindex : ∀ r c, s.spriteIndex slot r c ≠ 0 ↔ s.spriteColour slot r c ≠ 0 := fun r c => by
    rw [← s.toNat_spriteIndex, Ne, ← BitVec.toNat_inj]
    rfl
  rw [s.spritePriority_iff, s.under_eq, s.spriteHeight_eq_num, s.toNat_oamByte, s.toNat_oamByte]
  refine exists_congr fun r => exists_congr fun c => ?_
  rw [hindex, ← BitVec.toNat_inj, toNat_shade, s.toNat_spritePalette, s.toNat_spriteIndex]
  rfl

theorem State.spriteCell_eq_some_iff (s : State) (slot x y : Nat) (v : Shade) :
    s.spriteCell slot x y = some v ↔ SpriteDraws s slot x y v := by
  rw [spriteDraws_iff]
  unfold State.spriteCell
  constructor
  · intro h
    dsimp only at h
    split at h
    · next hin =>
      split at h
      · next hdrawn =>
        exact ⟨_, _, by omega, by omega, by omega, by omega, hdrawn.1, hdrawn.2, (Option.some.inj h).symm⟩
      · cases h
    · cases h
  · rintro ⟨r, c, hr, hc, hy, hx, hci, hpri, rfl⟩
    have hr' : y + 16 - (s.oamByte slot 0).toNat = r := by omega
    have hc' : x + 8 - (s.oamByte slot 1).toNat = c := by omega
    dsimp only
    rw [if_pos (by omega), hr', hc', if_pos ⟨hci, hpri⟩]
    rfl

theorem State.spriteCell_eq_none_iff (s : State) (slot x y : Nat) :
    s.spriteCell slot x y = none ↔ ∀ v, ¬ SpriteDraws s slot x y v := by
  simp only [← s.spriteCell_eq_some_iff, Option.eq_none_iff_forall_ne_some, ne_eq]

/-! ### The sprite layer (R363, R364) -/

/-- The lowest slot that draws wins. -/
theorem State.topSprite_eq_some {s : State} {slot x y : Nat} {v : Shade} (hslot : slot < 40)
    (hdraws : SpriteDraws s slot x y v) (hlower : ∀ lower, lower < slot → ∀ w, ¬ SpriteDraws s lower x y w) :
    s.topSprite x y = some v := by
  have hsplit : List.range Config.spriteSlots = List.range slot ++ slot :: List.range' (slot + 1) (39 - slot) := by
    rw [show Config.spriteSlots = slot + (39 - slot + 1) by unfold Config.spriteSlots; omega, List.range_eq_range',
      ← List.range'_append_1, Nat.zero_add, List.range'_succ, List.range_eq_range']
  rw [State.topSprite, List.findSome?_eq_some_iff]
  exact ⟨_, slot, _, hsplit, (s.spriteCell_eq_some_iff slot x y v).2 hdraws, fun lower hl =>
    (s.spriteCell_eq_none_iff lower x y).2 (hlower lower (List.mem_range.1 hl))⟩

theorem State.topSprite_eq_none {s : State} {x y : Nat} (h : ∀ slot v, slot < 40 → ¬ SpriteDraws s slot x y v) :
    s.topSprite x y = none :=
  List.findSome?_eq_none_iff.2 fun slot hs =>
    (s.spriteCell_eq_none_iff slot x y).2 fun v => h slot v (List.mem_range.1 hs)

/-- The sprite layer of a rendered frame. -/
theorem State.cell_sprSurface_renderFrame (s : State) (dflt : Option Shade) {x y : Nat} (hx : x < 160) (hy : y < 144) :
    s.renderFrame.sprSurface.cell dflt x y = if s.num 0xFF40 / 2 % 2 = 1 then s.topSprite x y else none := by
  have hbit : (s.memRead Params.lcdc).getLsbD 1 = decide (s.num 0xFF40 / 2 % 2 = 1) := s.getLsbD_lcdc 1
  rw [State.renderFrame_sprSurface, hbit]
  simp only [decide_eq_true_eq]
  split
  · exact cell_surfaceOf _ _ hx hy
  · exact Surface.cell_filled _ _ hx hy

/-- The frame: the sprite layer over what lies under it (R365). -/
theorem State.frameBuffer_renderFrame (s : State) :
    s.renderFrame.frameBuffer =
      surfaceOf fun x y => (s.renderFrame.sprSurface.cell none x y).getD (s.under x y) := by
  unfold State.renderFrame
  simp only [State.frameBuffer_setFrames, State.frameBuffer_setFrameBuffer, State.sprSurface_setFrames,
    State.sprSurface_setFrameBuffer, State.sprSurface_setSprSurface]
  refine congrArg surfaceOf (funext fun x => funext fun y => ?_)
  split
  · next v h => rw [h, Option.getD_some]
  · next h => rw [h, Option.getD_none]; rfl

theorem State.frames_renderFrame (s : State) : s.renderFrame.frames = s.frames + 1 := by
  unfold State.renderFrame
  rw [State.frames_setFrames, State.frames_setSprSurface]

theorem keepsCpu_renderFrame (s : State) : KeepsCpu s s.renderFrame where
  regs r _ := by cases r <;> simp
  f := by simp
  sp := by simp
  pc := by simp
  numCycles := by simp
  control := by constructor <;> simp

/-- Settles O60: the sprite layer is the search for the lowest drawing slot, and the frame lays it over the window's and
the background's pixels. -/
theorem frameComposed : Obligations.FrameComposed := by
  intro s x y hx hy
  refine ⟨fun slot v on hslot hdraws hlower => ?drawn, fun h => ?transparent, ?frame, s.frames_renderFrame,
    s.bgSurface_renderFrame, s.winSurface_renderFrame, s.memRead_renderFrame, keepsCpu_renderFrame s⟩
  case drawn =>
    rw [State.cell_sprSurface_renderFrame s _ hx hy, if_pos on, State.topSprite_eq_some hslot hdraws hlower]
  case transparent =>
    rw [State.cell_sprSurface_renderFrame s _ hx hy]
    split
    case isTrue on => exact State.topSprite_eq_none fun slot v hslot hdraws => h ⟨on, slot, v, hslot, hdraws⟩
    case isFalse => rfl
  case frame => rw [State.frameBuffer_renderFrame, cell_surfaceOf _ _ hx hy, State.under_eq]

end Sys2Proof.Machine

/-! Reset (70_reset_and_hazards.md R400): it rewrites the registers of the table one after the other over a state that
differs from the reset state in memory and the frame counter alone. Then power-on and its first step (R401, R403). -/

namespace Sys2Proof.Machine

/-! ### A table of cells written one after the other -/

/-- Each cell of the table written in turn. -/
def State.writeCells (s : State) (cells : List (Word × Byte)) : State := cells.foldl (fun s r => s.cellWrite r.1 r.2) s

section
variable {cells : List (Word × Byte)} (s : State)

theorem State.writeCells_cons (r : Word × Byte) : s.writeCells (r :: cells) = (s.memWrite r.1 r.2).writeCells cells := rfl

theorem State.memRead_writeCells_other {k : Word} (hk : k ∉ cells.map Prod.fst) :
    (s.writeCells cells).memRead k = s.memRead k := by
  induction cells generalizing s with
  | nil => rfl
  | cons r rest ih =>
    obtain ⟨hr, hrest⟩ := not_or.1 (mt List.mem_cons.2 hk)
    rw [State.writeCells_cons, ih _ hrest, State.memRead_memWrite_other _ hr]

/-- No later write of the table hits an earlier cell. -/
theorem State.memRead_writeCells_of_mem (hdistinct : (cells.map Prod.fst).Nodup) {p : Word × Byte} (hp : p ∈ cells) :
    (s.writeCells cells).memRead p.1 = p.2 := by
  induction cells generalizing s with
  | nil => cases hp
  | cons r rest ih =>
    obtain ⟨hr, hrest⟩ := List.nodup_cons.1 hdistinct
    rw [State.writeCells_cons]
    obtain rfl | hp := List.mem_cons.1 hp
    · rw [State.memRead_writeCells_other _ hr, State.memRead_memWrite_same]
    · exact ih _ hrest hp

theorem keepsCpu_writeCells : KeepsCpu s (s.writeCells cells) := by
  induction cells generalizing s with
  | nil => exact ⟨fun _ _ => rfl, rfl, rfl, rfl, rfl, ⟨rfl, rfl, rfl⟩⟩
  | cons r rest ih => exact (keepsCpu_memWrite s r.1 r.2).trans (ih _)

theorem keepsDevices_writeCells : KeepsDevices s (s.writeCells cells) := by
  induction cells generalizing s with
  | nil => exact ⟨⟨rfl, rfl⟩, ⟨rfl, rfl, rfl, rfl, rfl, rfl, rfl, rfl⟩⟩
  | cons r rest ih => exact (keepsDevices_memWrite s r.1 r.2).trans (ih _)

end

/-! ### Reset (R400) -/

section
variable (s : State)

/-- What reset writes the registers over: the reset state with the machine's memory and its count of FrameReady events. -/
def State.resetBase : State := (State.reset.setMem s.mem).setFrames s.frames

theorem State.hostReset_eq : s.hostReset = s.resetBase.writeCells Params.ioReset := rfl

theorem keepsCpu_resetBase : KeepsCpu State.reset s.resetBase where
  regs r _ := by cases r <;> rfl
  f := rfl
  sp := rfl
  pc := rfl
  numCycles := rfl
  control := ⟨rfl, rfl, rfl⟩

theorem keepsCpu_hostReset : KeepsCpu State.reset s.hostReset :=
  (keepsCpu_resetBase s).trans (keepsCpu_writeCells s.resetBase)

theorem keepsDevices_hostReset : KeepsDevices s.resetBase s.hostReset := keepsDevices_writeCells s.resetBase

theorem State.memRead_hostReset_of_mem {p : Word × Byte} (hp : p ∈ Params.ioReset) : s.hostReset.memRead p.1 = p.2 := by
  rw [State.hostReset_eq, State.memRead_writeCells_of_mem _ (by decide) hp]

theorem State.memRead_hostReset_other {k : Word} (hk : k ∉ Params.ioReset.map Prod.fst) :
    s.hostReset.memRead k = s.memRead k := by
  rw [State.hostReset_eq, State.memRead_writeCells_other _ hk]
  rfl

end

/-- Settles O50: the table is that of the registers' reset values, and the rest of the state is the reset state's. -/
theorem hostReset : Obligations.HostReset := by
  intro s
  obtain ⟨hregs, hf, hsp, hpc, hcycles, ⟨hime, hhalted, hfault⟩⟩ := keepsCpu_hostReset s
  obtain ⟨⟨hdiv, hcount⟩, ⟨hline, hmode, hrows, hbg, hwin, hspr, hframe, -⟩⟩ := keepsDevices_hostReset s
  have hreg : ∀ r : Reg, s.hostReset.reg r = State.reset.reg r := fun r => hregs r List.not_mem_nil
  refine ⟨⟨hreg .a, hf, hreg .b, hreg .c, hreg .d, hreg .e, hreg .h, hreg .l, hsp, hpc⟩,
    ⟨hime, hhalted, hcycles, hfault⟩, ⟨hdiv, hcount, hline, hmode, hrows⟩, fun x y hx hy => ?surfaces,
    fun _ => State.memRead_hostReset_of_mem s, fun _ => State.memRead_hostReset_other s⟩
  case surfaces =>
    rw [hbg, hwin, hspr, hframe]
    exact ⟨Surface.cell_filled _ _ hx hy, Surface.cell_filled _ _ hx hy, Surface.cell_filled _ _ hx hy,
      Surface.cell_filled _ _ hx hy⟩

/-! ### The first step after power-on (R403) -/

/-- The fetch of NOP, whatever bytes follow. -/
theorem State.fetchInstr_nop {s : State} (h : s.memRead s.pc = 0x00) : s.fetchInstr = .nop := by
  rw [State.fetchInstr, h]
  rfl

/-- A step over a NOP: its cost of 4 goes to TIMER and PPU, and with no source enabled servicing does nothing. -/
theorem step_nop {s : State} (hfault : s.fault = none) (hop : s.memRead s.pc = 0x00) (hie : s.memRead 0xFFFF = 0x00) :
    ∃ u, TransfersPure (s.pc + 1) 4 s u ∧ step s = .next ((u.timerAdvance 4).ppuAdvance 4) := by
  obtain ⟨u, hnop, hnext⟩ := notTaken_transfers s 1 4
  have hexec : exec s.fetchInstr s = .next u := by rwa [State.fetchInstr_nop hop]
  have hafter : u.afterInstruction = ((u.timerAdvance 4).ppuAdvance 4).servicePending := by
    rw [State.afterInstruction, hnext.transfers.control.fault, hfault, hnext.transfers.numCycles]
  have hie' : ((u.timerAdvance 4).ppuAdvance 4).memRead Params.intEnable = 0#8 := by
    rw [State.memRead_ppuAdvance_other _ _ (by decide) (by decide) (by decide),
      State.memRead_timerAdvance_other _ _ (by decide) (by decide) (by decide), hnext.memory]
    exact hie
  have hpend : ((u.timerAdvance 4).ppuAdvance 4).pendingEnabled = 0#8 := by
    rw [State.pendingEnabled_eq, hie', BitVec.and_zero, BitVec.zero_and]
  exact ⟨u, hnext, by rw [step_eq_afterInstruction hfault hexec, hafter, State.servicePending_none hpend]⟩

/-- With the timer off, cycles that do not fill the divider's accumulator are added to it, and nothing else changes. -/
theorem State.timerAdvance_idle {s : State} {c : Nat} (hoff : (s.memRead Params.tac).getLsbD 2 = false)
    (hacc : s.divAcc + c < 256) : s.timerAdvance c = s.setDivAcc (s.divAcc + c) := by
  have hdiv : s.dividerAdvance c = s.setDivAcc (s.divAcc + c) := if_neg (Nat.not_le.2 hacc)
  have htac : ((s.setDivAcc (s.divAcc + c)).memRead Params.tac).getLsbD 2 ≠ true := ne_true_of_eq_false hoff
  rw [State.timerAdvance, hdiv, State.countdownAdvance_eq, if_neg htac]

section
variable {s : State} {c : Nat}

/-- Cycles spent within a line leave LY. -/
theorem lineAfter_within_line (hline : c < s.lineCounter) : LineAfter s c = (s.memRead 0xFF44).toNat := if_neg (by omega)

theorem counterAfter_within_line (hline : c < s.lineCounter) : CounterAfter s c = s.lineCounter - c := if_neg (by omega)

/-- An advance within a line and a mode requests nothing where STAT does not enable the line compare. -/
theorem memRead_intFlag_ppuAdvance (hline : c < s.lineCounter) (hmode : ModeAfter s c = (modeCode s.mode).toNat)
    (hstat : (s.memRead 0xFF41).getLsbD 6 = false) : (s.ppuAdvance c).memRead 0xFF0F = s.memRead 0xFF0F := by
  refine BitVec.eq_of_getLsbD_eq fun i _ => (ppuRequests s c i).trans ?_
  have hgoes : ¬ s.lineCounter - c ≤ 0 := by omega
  simp only [hgoes, hmode, hstat, false_and, ne_eq, not_true_eq_false, decide_false, Bool.false_and, Bool.and_false,
    Bool.or_false]

/-- An advance from the top of line 0 that ends within its OAM search, LYC and STAT as reset leaves them: STAT goes on
showing mode 2 and the line match. -/
theorem ppuAdvance_oamSearch (hcounter : s.lineCounter = 456) (hly : s.memRead 0xFF44 = 0x00)
    (hlyc : s.memRead 0xFF45 = 0x00) (hstat : s.memRead 0xFF41 = 0x06) (hmode : s.mode = .oamSearch) (hc : c < 80) :
    (s.ppuAdvance c).lineCounter = 456 - c ∧ (s.ppuAdvance c).mode = .oamSearch ∧
      (s.ppuAdvance c).memRead 0xFF41 = 0x06 ∧ (s.ppuAdvance c).memRead 0xFF44 = 0x00 ∧
      (s.ppuAdvance c).memRead 0xFF0F = s.memRead 0xFF0F := by
  have hline : c < s.lineCounter := by omega
  have hlineAfter : LineAfter s c = 0 := by rw [lineAfter_within_line hline, hly]; rfl
  have hcounterAfter : CounterAfter s c = 456 - c := by rw [counterAfter_within_line hline, hcounter]
  have hmodeAfter : ModeAfter s c = 2 := by
    rw [ModeAfter, hlineAfter, hcounterAfter, if_neg (by omega), if_pos (by omega)]
  obtain ⟨hcounter', hly', hcode, -⟩ := ppuLineModeStat s c
  have hmode' : (s.ppuAdvance c).mode = .oamSearch := modeCode_toNat_inj.1 (hcode.trans hmodeAfter)
  refine ⟨hcounter'.trans hcounterAfter, hmode', ?stat, BitVec.eq_of_toNat_eq (hly'.trans hlineAfter),
    memRead_intFlag_ppuAdvance hline (by rw [hmodeAfter, hmode]; rfl) (by rw [hstat]; rfl)⟩
  case stat =>
    refine (State.memRead_stat_ppuAdvance s c).trans ?_
    rw [← State.mode_ppuAdvance, hmode', hlineAfter, Params.stat, Params.lyc, hstat, hlyc]
    rfl

end

/-- Settles O51: the cost of the NOP ends neither the divider's 256 cycles nor line 0's OAM search. -/
theorem firstStepAfterPowerOn : Obligations.FirstStepAfterPowerOn := by
  intro image hop
  have hcpu : KeepsCpu State.reset (powerOn image) := keepsCpu_hostReset _
  have hio : ∀ p ∈ Params.ioReset, (powerOn image).memRead p.1 = p.2 := fun _ => State.memRead_hostReset_of_mem _
  have hnop : (powerOn image).memRead (powerOn image).pc = 0x00 := by
    rw [hcpu.pc]
    exact (State.memRead_hostReset_other _ (by decide)).trans hop
  obtain ⟨u, ⟨⟨hpc, hcycles, hregs, hflags, -, hdevices⟩, hsp, hmemory⟩, hstep⟩ :=
    step_nop hcpu.control.fault hnop (hio (0xFFFF, 0x00) (by decide))
  have hread : ∀ p ∈ Params.ioReset, u.memRead p.1 = p.2 := fun p hp => (hmemory p.1).trans (hio p hp)
  obtain ⟨⟨hdiv, hcountdown⟩, ⟨hline, hmode, -⟩⟩ := (keepsDevices_hostReset _).trans hdevices
  have hdivAcc : u.divAcc = 0 := hdiv
  have htimer : u.timerAdvance 4 = u.setDivAcc 4 := by
    rw [State.timerAdvance_idle (by rw [hread (Params.tac, 0x00) (by decide)]; rfl) (by omega), hdivAcc]
  rw [htimer] at hstep
  have kept := keepsCpu_ppuAdvance (u.setDivAcc 4) 4
  have timerKept := keepsTimer_ppuAdvance (u.setDivAcc 4) 4
  obtain ⟨hline', hmode', hstat, hly, hif⟩ := ppuAdvance_oamSearch (s := u.setDivAcc 4) (c := 4) hline
    (hread (0xFF44, 0x00) (by decide)) (hread (0xFF45, 0x00) (by decide)) (hread (0xFF41, 0x06) (by decide)) hmode
    (by decide)
  refine ⟨_, hstep, ?pc, kept.numCycles.trans hcycles, timerKept.divAcc, timerKept.countdown.trans hcountdown, hline',
    hmode', hstat, hly, hif.trans (hread (0xFF0F, 0x00) (by decide)), (hcpu.regs.trans hregs).trans kept.regs,
    (kept.f.trans hflags).trans hcpu.f, (kept.sp.trans hsp).trans hcpu.sp⟩
  case pc =>
    rw [kept.pc, State.pc_setDivAcc, hpc, hcpu.pc]
    rfl

end Sys2Proof.Machine
